-- ==== Sys2Proof/Word.lean ====
section
/-! DEFINITION. The two word types of the machine: a byte and a 16-bit word (00_scope.md R5, R6). Their arithmetic is
`BitVec`'s own, which wraps modulo 256 and 65536 (10_state.md R37, R38; 43_arithmetic.md R280). -/

namespace Sys2Proof

/-- An 8-bit value, bit 0 least significant (R6). -/
abbrev Byte := BitVec 8

/-- A 16-bit value: an address, pc, sp or a register pair (R5, R6). -/
abbrev Word := BitVec 16

end Sys2Proof
end

