-- ==== Sys2Proof/Config.lean ====
section
/-! DEFINITION. The implementation parameters of 00_scope.md R5: `F_LOW_NIBBLE_MASK`, `ROTATE_A_Z` and `FetchSource`
(`MemInit` is the argument of `State.powerOn`). The spec leaves no result undefined (93_implementation_defined.md Part A), so
there is no free value. -/

namespace Sys2Proof

/-- `ROTATE_A_Z`: the Z flag of RLCA, RRCA, RLA and RRA (R5; 92_eei_decisions.md D9). -/
inductive RotateAZ where
  /-- Z is cleared. -/
  | clear
  /-- Z says whether the result is zero. -/
  | fromResult
  deriving DecidableEq, Repr

/-- The two parameters of R5 that an instruction's meaning reads. -/
structure Params where
  /-- `F_LOW_NIBBLE_MASK`: POP AF writes F[3:0] as zero (D7). -/
  fLowNibbleMask : Bool
  /-- `ROTATE_A_Z` (D9). -/
  rotateAZ : RotateAZ
  deriving DecidableEq, Repr

/-- The values R5 chooses by default: `false` and `Clear`. -/
def Config.defaultParams : Params := { fLowNibbleMask := false, rotateAZ := .clear }

/-- `FetchSource`: where the instruction bytes of one step come from (R5, D2; 40_dispatch.md R141). It is an argument of each
step and no state (10_state.md R42). -/
inductive FetchSource where
  /-- The bytes at pc in memory: the default. -/
  | closedMemory
  /-- A buffer of the host's and the index of the instruction's first byte in it. -/
  | hostBuffer (bytes : List Byte) (startIndex : Int)
  deriving DecidableEq, Repr

end Sys2Proof
end

