-- ==== Sys2Proof/Machine/Bytes.lean ====
section
/-! DEFINITION. The narrowing, byte-order and sign helpers of 00_scope.md R6 and R7, used by the decoder and the machine. -/

namespace Sys2Proof

/-- `u8(v)`: an integer modulo 256 (R7). -/
def u8 (v : Int) : Byte := BitVec.ofInt 8 v

/-- `u16(v)`: an integer modulo 65536 (R7). -/
def u16 (v : Int) : Word := BitVec.ofInt 16 v

/-- `s8(b)`: the two's-complement reading of a byte, -128 to 127 (R7, R112). -/
def s8 (b : Byte) : Int := b.toInt

/-- `hi:lo`: two bytes as a 16-bit value, the first-named byte high (R6). -/
def joinBytes (hi lo : Byte) : Word := hi ++ lo

/-- `v[15:8]`. -/
def hiByte (v : Word) : Byte := v.extractLsb' 8 8

/-- `v[7:0]`. -/
def loByte (v : Word) : Byte := v.extractLsb' 0 8

/-- A bit as a byte: 0 or 1 (R7, booleans written as 1 and 0). -/
def bitByte (b : Bool) : Byte := if b then 1 else 0

end Sys2Proof
end

