-- ==== Sys2Proof/Syntax.lean ====
section
/-! DEFINITION. The syntax: the operand alphabets of 30_encoding.md R103 to R109 and `Instr`, one constructor per row of
spec/opcode_table.json, the rows with an operand first, then the rows
without, each in the table's order. An operand is the instruction's immediate: `n` an unsigned byte (R110), `nn` a
16-bit value (R111), `e` the signed displacement (R112), whose range -128 to 127 is checked in WellFormed.lean. Registers,
pairs, conditions, bit numbers and RST targets are part of the row, so they are part of the constructor's name:
`At` before a name means the memory byte at that address, as the parentheses of R122. -/

namespace Sys2Proof

/-- The registers an 8-bit register field can name (R103): F is not encodable. -/
inductive Reg8 where
  | b | c | d | e | h | l | a
  deriving DecidableEq, Repr

/-- The 8-bit operand field `r` (R103): a register, or the memory byte at the address in HL. -/
inductive Operand8 where
  | reg (r : Reg8)
  | atHl
  deriving DecidableEq, Repr

/-- The 16-bit register field `rp` (R104). -/
inductive Reg16 where
  | bc | de | hl | sp
  deriving DecidableEq, Repr

/-- The 16-bit register field `rp2` of PUSH and POP (R105). -/
inductive StackPair where
  | bc | de | hl | af
  deriving DecidableEq, Repr

/-- The branch conditions (R106; their meaning is 10_state.md R36). -/
inductive Cond where
  | nz | z | nc | c
  deriving DecidableEq, Repr

/-- The operations of the ALU field (R107). -/
inductive AluOp where
  | add | adc | sub | sbc | and | xor | or | cp
  deriving DecidableEq, Repr

/-- The operations of the rotate and shift field (R108). -/
inductive RotOp where
  | rlc | rrc | rl | rr | sla | sra | swap | srl
  deriving DecidableEq, Repr

/-- An instruction of the core: one constructor per row of spec/opcode_table.json. -/
inductive Instr where
  /-- 0x01: `LD BC,nn` (R189). -/
  | ldBcNn (nn : Word)
  /-- 0x06: `LD B,n` (R171). -/
  | ldBN (n : Byte)
  /-- 0x08: `LD (nn),SP` (R190). -/
  | ldAtNnSp (nn : Word)
  /-- 0x0E: `LD C,n` (R171). -/
  | ldCN (n : Byte)
  /-- 0x11: `LD DE,nn` (R189). -/
  | ldDeNn (nn : Word)
  /-- 0x16: `LD D,n` (R171). -/
  | ldDN (n : Byte)
  /-- 0x18: `JR e` (R223). -/
  | jrE (e : Int)
  /-- 0x1E: `LD E,n` (R171). -/
  | ldEN (n : Byte)
  /-- 0x20: `JR NZ,e` (R224). -/
  | jrNzE (e : Int)
  /-- 0x21: `LD HL,nn` (R189). -/
  | ldHlNn (nn : Word)
  /-- 0x26: `LD H,n` (R171). -/
  | ldHN (n : Byte)
  /-- 0x28: `JR Z,e` (R224). -/
  | jrZE (e : Int)
  /-- 0x2E: `LD L,n` (R171). -/
  | ldLN (n : Byte)
  /-- 0x30: `JR NC,e` (R224). -/
  | jrNcE (e : Int)
  /-- 0x31: `LD SP,nn` (R189). -/
  | ldSpNn (nn : Word)
  /-- 0x36: `LD (HL),n` (R174). -/
  | ldAtHlN (n : Byte)
  /-- 0x38: `JR C,e` (R224). -/
  | jrCE (e : Int)
  /-- 0x3E: `LD A,n` (R171). -/
  | ldAN (n : Byte)
  /-- 0xC2: `JP NZ,nn` (R221). -/
  | jpNzNn (nn : Word)
  /-- 0xC3: `JP nn` (R220). -/
  | jpNn (nn : Word)
  /-- 0xC4: `CALL NZ,nn` (R226). -/
  | callNzNn (nn : Word)
  /-- 0xC6: `ADD A,n` (R254). -/
  | addAN (n : Byte)
  /-- 0xCA: `JP Z,nn` (R221). -/
  | jpZNn (nn : Word)
  /-- 0xCC: `CALL Z,nn` (R226). -/
  | callZNn (nn : Word)
  /-- 0xCD: `CALL nn` (R225). -/
  | callNn (nn : Word)
  /-- 0xCE: `ADC A,n` (R257). -/
  | adcAN (n : Byte)
  /-- 0xD2: `JP NC,nn` (R221). -/
  | jpNcNn (nn : Word)
  /-- 0xD4: `CALL NC,nn` (R226). -/
  | callNcNn (nn : Word)
  /-- 0xD6: `SUB A,n` (R260). -/
  | subAN (n : Byte)
  /-- 0xDA: `JP C,nn` (R221). -/
  | jpCNn (nn : Word)
  /-- 0xDC: `CALL C,nn` (R226). -/
  | callCNn (nn : Word)
  /-- 0xDE: `SBC A,n` (R263). -/
  | sbcAN (n : Byte)
  /-- 0xE0: `LDH (n),A` (R182). -/
  | ldhAtNA (n : Byte)
  /-- 0xE6: `AND A,n` (R303). -/
  | andAN (n : Byte)
  /-- 0xE8: `ADD SP,e` (R279). -/
  | addSpE (e : Int)
  /-- 0xEA: `LD (nn),A` (R180). -/
  | ldAtNnA (nn : Word)
  /-- 0xEE: `XOR A,n` (R306). -/
  | xorAN (n : Byte)
  /-- 0xF0: `LDH A,(n)` (R181). -/
  | ldhAAtN (n : Byte)
  /-- 0xF6: `OR A,n` (R309). -/
  | orAN (n : Byte)
  /-- 0xF8: `LD HL,SP+e` (R192). -/
  | ldHlSpE (e : Int)
  /-- 0xFA: `LD A,(nn)` (R179). -/
  | ldAAtNn (nn : Word)
  /-- 0xFE: `CP A,n` (R266). -/
  | cpAN (n : Byte)
  /-- 0x00: `NOP` (R149). -/
  | nop
  /-- 0x02: `LD (BC),A` (R177). -/
  | ldAtBcA
  /-- 0x03: `INC BC` (R275). -/
  | incBc
  /-- 0x04: `INC B` (R267). -/
  | incB
  /-- 0x05: `DEC B` (R269). -/
  | decB
  /-- 0x07: `RLCA` (R311). -/
  | rlca
  /-- 0x09: `ADD HL,BC` (R277). -/
  | addHlBc
  /-- 0x0A: `LD A,(BC)` (R175). -/
  | ldAAtBc
  /-- 0x0B: `DEC BC` (R276). -/
  | decBc
  /-- 0x0C: `INC C` (R267). -/
  | incC
  /-- 0x0D: `DEC C` (R269). -/
  | decC
  /-- 0x0F: `RRCA` (R312). -/
  | rrca
  /-- 0x10: `STOP` (R153). -/
  | stop
  /-- 0x12: `LD (DE),A` (R178). -/
  | ldAtDeA
  /-- 0x13: `INC DE` (R275). -/
  | incDe
  /-- 0x14: `INC D` (R267). -/
  | incD
  /-- 0x15: `DEC D` (R269). -/
  | decD
  /-- 0x17: `RLA` (R313). -/
  | rla
  /-- 0x19: `ADD HL,DE` (R277). -/
  | addHlDe
  /-- 0x1A: `LD A,(DE)` (R176). -/
  | ldAAtDe
  /-- 0x1B: `DEC DE` (R276). -/
  | decDe
  /-- 0x1C: `INC E` (R267). -/
  | incE
  /-- 0x1D: `DEC E` (R269). -/
  | decE
  /-- 0x1F: `RRA` (R314). -/
  | rra
  /-- 0x22: `LD (HL+),A` (R187). -/
  | ldAtHlIncA
  /-- 0x23: `INC HL` (R275). -/
  | incHl
  /-- 0x24: `INC H` (R267). -/
  | incH
  /-- 0x25: `DEC H` (R269). -/
  | decH
  /-- 0x27: `DAA` (R271). -/
  | daa
  /-- 0x29: `ADD HL,HL` (R277). -/
  | addHlHl
  /-- 0x2A: `LD A,(HL+)` (R185). -/
  | ldAAtHlInc
  /-- 0x2B: `DEC HL` (R276). -/
  | decHl
  /-- 0x2C: `INC L` (R267). -/
  | incL
  /-- 0x2D: `DEC L` (R269). -/
  | decL
  /-- 0x2F: `CPL` (R272). -/
  | cpl
  /-- 0x32: `LD (HL-),A` (R188). -/
  | ldAtHlDecA
  /-- 0x33: `INC SP` (R275). -/
  | incSp
  /-- 0x34: `INC (HL)` (R268). -/
  | incAtHl
  /-- 0x35: `DEC (HL)` (R270). -/
  | decAtHl
  /-- 0x37: `SCF` (R273). -/
  | scf
  /-- 0x39: `ADD HL,SP` (R277). -/
  | addHlSp
  /-- 0x3A: `LD A,(HL-)` (R186). -/
  | ldAAtHlDec
  /-- 0x3B: `DEC SP` (R276). -/
  | decSp
  /-- 0x3C: `INC A` (R267). -/
  | incA
  /-- 0x3D: `DEC A` (R269). -/
  | decA
  /-- 0x3F: `CCF` (R274). -/
  | ccf
  /-- 0x40: `LD B,B` (R170). -/
  | ldBB
  /-- 0x41: `LD B,C` (R170). -/
  | ldBC
  /-- 0x42: `LD B,D` (R170). -/
  | ldBD
  /-- 0x43: `LD B,E` (R170). -/
  | ldBE
  /-- 0x44: `LD B,H` (R170). -/
  | ldBH
  /-- 0x45: `LD B,L` (R170). -/
  | ldBL
  /-- 0x46: `LD B,(HL)` (R172). -/
  | ldBAtHl
  /-- 0x47: `LD B,A` (R170). -/
  | ldBA
  /-- 0x48: `LD C,B` (R170). -/
  | ldCB
  /-- 0x49: `LD C,C` (R170). -/
  | ldCC
  /-- 0x4A: `LD C,D` (R170). -/
  | ldCD
  /-- 0x4B: `LD C,E` (R170). -/
  | ldCE
  /-- 0x4C: `LD C,H` (R170). -/
  | ldCH
  /-- 0x4D: `LD C,L` (R170). -/
  | ldCL
  /-- 0x4E: `LD C,(HL)` (R172). -/
  | ldCAtHl
  /-- 0x4F: `LD C,A` (R170). -/
  | ldCA
  /-- 0x50: `LD D,B` (R170). -/
  | ldDB
  /-- 0x51: `LD D,C` (R170). -/
  | ldDC
  /-- 0x52: `LD D,D` (R170). -/
  | ldDD
  /-- 0x53: `LD D,E` (R170). -/
  | ldDE
  /-- 0x54: `LD D,H` (R170). -/
  | ldDH
  /-- 0x55: `LD D,L` (R170). -/
  | ldDL
  /-- 0x56: `LD D,(HL)` (R172). -/
  | ldDAtHl
  /-- 0x57: `LD D,A` (R170). -/
  | ldDA
  /-- 0x58: `LD E,B` (R170). -/
  | ldEB
  /-- 0x59: `LD E,C` (R170). -/
  | ldEC
  /-- 0x5A: `LD E,D` (R170). -/
  | ldED
  /-- 0x5B: `LD E,E` (R170). -/
  | ldEE
  /-- 0x5C: `LD E,H` (R170). -/
  | ldEH
  /-- 0x5D: `LD E,L` (R170). -/
  | ldEL
  /-- 0x5E: `LD E,(HL)` (R172). -/
  | ldEAtHl
  /-- 0x5F: `LD E,A` (R170). -/
  | ldEA
  /-- 0x60: `LD H,B` (R170). -/
  | ldHB
  /-- 0x61: `LD H,C` (R170). -/
  | ldHC
  /-- 0x62: `LD H,D` (R170). -/
  | ldHD
  /-- 0x63: `LD H,E` (R170). -/
  | ldHE
  /-- 0x64: `LD H,H` (R170). -/
  | ldHH
  /-- 0x65: `LD H,L` (R170). -/
  | ldHL
  /-- 0x66: `LD H,(HL)` (R172). -/
  | ldHAtHl
  /-- 0x67: `LD H,A` (R170). -/
  | ldHA
  /-- 0x68: `LD L,B` (R170). -/
  | ldLB
  /-- 0x69: `LD L,C` (R170). -/
  | ldLC
  /-- 0x6A: `LD L,D` (R170). -/
  | ldLD
  /-- 0x6B: `LD L,E` (R170). -/
  | ldLE
  /-- 0x6C: `LD L,H` (R170). -/
  | ldLH
  /-- 0x6D: `LD L,L` (R170). -/
  | ldLL
  /-- 0x6E: `LD L,(HL)` (R172). -/
  | ldLAtHl
  /-- 0x6F: `LD L,A` (R170). -/
  | ldLA
  /-- 0x70: `LD (HL),B` (R173). -/
  | ldAtHlB
  /-- 0x71: `LD (HL),C` (R173). -/
  | ldAtHlC
  /-- 0x72: `LD (HL),D` (R173). -/
  | ldAtHlD
  /-- 0x73: `LD (HL),E` (R173). -/
  | ldAtHlE
  /-- 0x74: `LD (HL),H` (R173). -/
  | ldAtHlH
  /-- 0x75: `LD (HL),L` (R173). -/
  | ldAtHlL
  /-- 0x76: `HALT` (R152). -/
  | halt
  /-- 0x77: `LD (HL),A` (R173). -/
  | ldAtHlA
  /-- 0x78: `LD A,B` (R170). -/
  | ldAB
  /-- 0x79: `LD A,C` (R170). -/
  | ldAC
  /-- 0x7A: `LD A,D` (R170). -/
  | ldAD
  /-- 0x7B: `LD A,E` (R170). -/
  | ldAE
  /-- 0x7C: `LD A,H` (R170). -/
  | ldAH
  /-- 0x7D: `LD A,L` (R170). -/
  | ldAL
  /-- 0x7E: `LD A,(HL)` (R172). -/
  | ldAAtHl
  /-- 0x7F: `LD A,A` (R170). -/
  | ldAA
  /-- 0x80: `ADD A,B` (R252). -/
  | addAB
  /-- 0x81: `ADD A,C` (R252). -/
  | addAC
  /-- 0x82: `ADD A,D` (R252). -/
  | addAD
  /-- 0x83: `ADD A,E` (R252). -/
  | addAE
  /-- 0x84: `ADD A,H` (R252). -/
  | addAH
  /-- 0x85: `ADD A,L` (R252). -/
  | addAL
  /-- 0x86: `ADD A,(HL)` (R253). -/
  | addAAtHl
  /-- 0x87: `ADD A,A` (R252). -/
  | addAA
  /-- 0x88: `ADC A,B` (R255). -/
  | adcAB
  /-- 0x89: `ADC A,C` (R255). -/
  | adcAC
  /-- 0x8A: `ADC A,D` (R255). -/
  | adcAD
  /-- 0x8B: `ADC A,E` (R255). -/
  | adcAE
  /-- 0x8C: `ADC A,H` (R255). -/
  | adcAH
  /-- 0x8D: `ADC A,L` (R255). -/
  | adcAL
  /-- 0x8E: `ADC A,(HL)` (R256). -/
  | adcAAtHl
  /-- 0x8F: `ADC A,A` (R255). -/
  | adcAA
  /-- 0x90: `SUB A,B` (R258). -/
  | subAB
  /-- 0x91: `SUB A,C` (R258). -/
  | subAC
  /-- 0x92: `SUB A,D` (R258). -/
  | subAD
  /-- 0x93: `SUB A,E` (R258). -/
  | subAE
  /-- 0x94: `SUB A,H` (R258). -/
  | subAH
  /-- 0x95: `SUB A,L` (R258). -/
  | subAL
  /-- 0x96: `SUB A,(HL)` (R259). -/
  | subAAtHl
  /-- 0x97: `SUB A,A` (R258). -/
  | subAA
  /-- 0x98: `SBC A,B` (R261). -/
  | sbcAB
  /-- 0x99: `SBC A,C` (R261). -/
  | sbcAC
  /-- 0x9A: `SBC A,D` (R261). -/
  | sbcAD
  /-- 0x9B: `SBC A,E` (R261). -/
  | sbcAE
  /-- 0x9C: `SBC A,H` (R261). -/
  | sbcAH
  /-- 0x9D: `SBC A,L` (R261). -/
  | sbcAL
  /-- 0x9E: `SBC A,(HL)` (R262). -/
  | sbcAAtHl
  /-- 0x9F: `SBC A,A` (R261). -/
  | sbcAA
  /-- 0xA0: `AND A,B` (R301). -/
  | andAB
  /-- 0xA1: `AND A,C` (R301). -/
  | andAC
  /-- 0xA2: `AND A,D` (R301). -/
  | andAD
  /-- 0xA3: `AND A,E` (R301). -/
  | andAE
  /-- 0xA4: `AND A,H` (R301). -/
  | andAH
  /-- 0xA5: `AND A,L` (R301). -/
  | andAL
  /-- 0xA6: `AND A,(HL)` (R302). -/
  | andAAtHl
  /-- 0xA7: `AND A,A` (R301). -/
  | andAA
  /-- 0xA8: `XOR A,B` (R304). -/
  | xorAB
  /-- 0xA9: `XOR A,C` (R304). -/
  | xorAC
  /-- 0xAA: `XOR A,D` (R304). -/
  | xorAD
  /-- 0xAB: `XOR A,E` (R304). -/
  | xorAE
  /-- 0xAC: `XOR A,H` (R304). -/
  | xorAH
  /-- 0xAD: `XOR A,L` (R304). -/
  | xorAL
  /-- 0xAE: `XOR A,(HL)` (R305). -/
  | xorAAtHl
  /-- 0xAF: `XOR A,A` (R304). -/
  | xorAA
  /-- 0xB0: `OR A,B` (R307). -/
  | orAB
  /-- 0xB1: `OR A,C` (R307). -/
  | orAC
  /-- 0xB2: `OR A,D` (R307). -/
  | orAD
  /-- 0xB3: `OR A,E` (R307). -/
  | orAE
  /-- 0xB4: `OR A,H` (R307). -/
  | orAH
  /-- 0xB5: `OR A,L` (R307). -/
  | orAL
  /-- 0xB6: `OR A,(HL)` (R308). -/
  | orAAtHl
  /-- 0xB7: `OR A,A` (R307). -/
  | orAA
  /-- 0xB8: `CP A,B` (R264). -/
  | cpAB
  /-- 0xB9: `CP A,C` (R264). -/
  | cpAC
  /-- 0xBA: `CP A,D` (R264). -/
  | cpAD
  /-- 0xBB: `CP A,E` (R264). -/
  | cpAE
  /-- 0xBC: `CP A,H` (R264). -/
  | cpAH
  /-- 0xBD: `CP A,L` (R264). -/
  | cpAL
  /-- 0xBE: `CP A,(HL)` (R265). -/
  | cpAAtHl
  /-- 0xBF: `CP A,A` (R264). -/
  | cpAA
  /-- 0xC0: `RET NZ` (R228). -/
  | retNz
  /-- 0xC1: `POP BC` (R363). -/
  | popBc
  /-- 0xC5: `PUSH BC` (R362). -/
  | pushBc
  /-- 0xC7: `RST 00h` (R230). -/
  | rst00
  /-- 0xC8: `RET Z` (R228). -/
  | retZ
  /-- 0xC9: `RET` (R227). -/
  | ret
  /-- 0xCF: `RST 08h` (R230). -/
  | rst08
  /-- 0xD0: `RET NC` (R228). -/
  | retNc
  /-- 0xD1: `POP DE` (R363). -/
  | popDe
  /-- 0xD3: `unassigned D3` (R154). -/
  | illegalD3
  /-- 0xD5: `PUSH DE` (R362). -/
  | pushDe
  /-- 0xD7: `RST 10h` (R230). -/
  | rst10
  /-- 0xD8: `RET C` (R228). -/
  | retC
  /-- 0xD9: `RETI` (R229). -/
  | reti
  /-- 0xDB: `unassigned DB` (R154). -/
  | illegalDB
  /-- 0xDD: `unassigned DD` (R154). -/
  | illegalDD
  /-- 0xDF: `RST 18h` (R230). -/
  | rst18
  /-- 0xE1: `POP HL` (R363). -/
  | popHl
  /-- 0xE2: `LDH (C),A` (R184). -/
  | ldhAtCA
  /-- 0xE3: `unassigned E3` (R154). -/
  | illegalE3
  /-- 0xE4: `unassigned E4` (R154). -/
  | illegalE4
  /-- 0xE5: `PUSH HL` (R362). -/
  | pushHl
  /-- 0xE7: `RST 20h` (R230). -/
  | rst20
  /-- 0xE9: `JP HL` (R222). -/
  | jpHl
  /-- 0xEB: `unassigned EB` (R154). -/
  | illegalEB
  /-- 0xEC: `unassigned EC` (R154). -/
  | illegalEC
  /-- 0xED: `unassigned ED` (R154). -/
  | illegalED
  /-- 0xEF: `RST 28h` (R230). -/
  | rst28
  /-- 0xF1: `POP AF` (R364). -/
  | popAf
  /-- 0xF2: `LDH A,(C)` (R183). -/
  | ldhAAtC
  /-- 0xF3: `DI` (R151). -/
  | di
  /-- 0xF4: `unassigned F4` (R154). -/
  | illegalF4
  /-- 0xF5: `PUSH AF` (R362). -/
  | pushAf
  /-- 0xF7: `RST 30h` (R230). -/
  | rst30
  /-- 0xF9: `LD SP,HL` (R191). -/
  | ldSpHl
  /-- 0xFB: `EI` (R150). -/
  | ei
  /-- 0xFC: `unassigned FC` (R154). -/
  | illegalFC
  /-- 0xFD: `unassigned FD` (R154). -/
  | illegalFD
  /-- 0xFF: `RST 38h` (R230). -/
  | rst38
  /-- 0xCB 0x00: `RLC B` (R315). -/
  | rlcB
  /-- 0xCB 0x01: `RLC C` (R315). -/
  | rlcC
  /-- 0xCB 0x02: `RLC D` (R315). -/
  | rlcD
  /-- 0xCB 0x03: `RLC E` (R315). -/
  | rlcE
  /-- 0xCB 0x04: `RLC H` (R315). -/
  | rlcH
  /-- 0xCB 0x05: `RLC L` (R315). -/
  | rlcL
  /-- 0xCB 0x06: `RLC (HL)` (R316). -/
  | rlcAtHl
  /-- 0xCB 0x07: `RLC A` (R315). -/
  | rlcA
  /-- 0xCB 0x08: `RRC B` (R317). -/
  | rrcB
  /-- 0xCB 0x09: `RRC C` (R317). -/
  | rrcC
  /-- 0xCB 0x0A: `RRC D` (R317). -/
  | rrcD
  /-- 0xCB 0x0B: `RRC E` (R317). -/
  | rrcE
  /-- 0xCB 0x0C: `RRC H` (R317). -/
  | rrcH
  /-- 0xCB 0x0D: `RRC L` (R317). -/
  | rrcL
  /-- 0xCB 0x0E: `RRC (HL)` (R318). -/
  | rrcAtHl
  /-- 0xCB 0x0F: `RRC A` (R317). -/
  | rrcA
  /-- 0xCB 0x10: `RL B` (R319). -/
  | rlB
  /-- 0xCB 0x11: `RL C` (R319). -/
  | rlC
  /-- 0xCB 0x12: `RL D` (R319). -/
  | rlD
  /-- 0xCB 0x13: `RL E` (R319). -/
  | rlE
  /-- 0xCB 0x14: `RL H` (R319). -/
  | rlH
  /-- 0xCB 0x15: `RL L` (R319). -/
  | rlL
  /-- 0xCB 0x16: `RL (HL)` (R320). -/
  | rlAtHl
  /-- 0xCB 0x17: `RL A` (R319). -/
  | rlA
  /-- 0xCB 0x18: `RR B` (R321). -/
  | rrB
  /-- 0xCB 0x19: `RR C` (R321). -/
  | rrC
  /-- 0xCB 0x1A: `RR D` (R321). -/
  | rrD
  /-- 0xCB 0x1B: `RR E` (R321). -/
  | rrE
  /-- 0xCB 0x1C: `RR H` (R321). -/
  | rrH
  /-- 0xCB 0x1D: `RR L` (R321). -/
  | rrL
  /-- 0xCB 0x1E: `RR (HL)` (R322). -/
  | rrAtHl
  /-- 0xCB 0x1F: `RR A` (R321). -/
  | rrA
  /-- 0xCB 0x20: `SLA B` (R323). -/
  | slaB
  /-- 0xCB 0x21: `SLA C` (R323). -/
  | slaC
  /-- 0xCB 0x22: `SLA D` (R323). -/
  | slaD
  /-- 0xCB 0x23: `SLA E` (R323). -/
  | slaE
  /-- 0xCB 0x24: `SLA H` (R323). -/
  | slaH
  /-- 0xCB 0x25: `SLA L` (R323). -/
  | slaL
  /-- 0xCB 0x26: `SLA (HL)` (R324). -/
  | slaAtHl
  /-- 0xCB 0x27: `SLA A` (R323). -/
  | slaA
  /-- 0xCB 0x28: `SRA B` (R325). -/
  | sraB
  /-- 0xCB 0x29: `SRA C` (R325). -/
  | sraC
  /-- 0xCB 0x2A: `SRA D` (R325). -/
  | sraD
  /-- 0xCB 0x2B: `SRA E` (R325). -/
  | sraE
  /-- 0xCB 0x2C: `SRA H` (R325). -/
  | sraH
  /-- 0xCB 0x2D: `SRA L` (R325). -/
  | sraL
  /-- 0xCB 0x2E: `SRA (HL)` (R326). -/
  | sraAtHl
  /-- 0xCB 0x2F: `SRA A` (R325). -/
  | sraA
  /-- 0xCB 0x30: `SWAP B` (R327). -/
  | swapB
  /-- 0xCB 0x31: `SWAP C` (R327). -/
  | swapC
  /-- 0xCB 0x32: `SWAP D` (R327). -/
  | swapD
  /-- 0xCB 0x33: `SWAP E` (R327). -/
  | swapE
  /-- 0xCB 0x34: `SWAP H` (R327). -/
  | swapH
  /-- 0xCB 0x35: `SWAP L` (R327). -/
  | swapL
  /-- 0xCB 0x36: `SWAP (HL)` (R328). -/
  | swapAtHl
  /-- 0xCB 0x37: `SWAP A` (R327). -/
  | swapA
  /-- 0xCB 0x38: `SRL B` (R329). -/
  | srlB
  /-- 0xCB 0x39: `SRL C` (R329). -/
  | srlC
  /-- 0xCB 0x3A: `SRL D` (R329). -/
  | srlD
  /-- 0xCB 0x3B: `SRL E` (R329). -/
  | srlE
  /-- 0xCB 0x3C: `SRL H` (R329). -/
  | srlH
  /-- 0xCB 0x3D: `SRL L` (R329). -/
  | srlL
  /-- 0xCB 0x3E: `SRL (HL)` (R330). -/
  | srlAtHl
  /-- 0xCB 0x3F: `SRL A` (R329). -/
  | srlA
  /-- 0xCB 0x40: `BIT 0,B` (R331). -/
  | bit0B
  /-- 0xCB 0x41: `BIT 0,C` (R331). -/
  | bit0C
  /-- 0xCB 0x42: `BIT 0,D` (R331). -/
  | bit0D
  /-- 0xCB 0x43: `BIT 0,E` (R331). -/
  | bit0E
  /-- 0xCB 0x44: `BIT 0,H` (R331). -/
  | bit0H
  /-- 0xCB 0x45: `BIT 0,L` (R331). -/
  | bit0L
  /-- 0xCB 0x46: `BIT 0,(HL)` (R332). -/
  | bit0AtHl
  /-- 0xCB 0x47: `BIT 0,A` (R331). -/
  | bit0A
  /-- 0xCB 0x48: `BIT 1,B` (R331). -/
  | bit1B
  /-- 0xCB 0x49: `BIT 1,C` (R331). -/
  | bit1C
  /-- 0xCB 0x4A: `BIT 1,D` (R331). -/
  | bit1D
  /-- 0xCB 0x4B: `BIT 1,E` (R331). -/
  | bit1E
  /-- 0xCB 0x4C: `BIT 1,H` (R331). -/
  | bit1H
  /-- 0xCB 0x4D: `BIT 1,L` (R331). -/
  | bit1L
  /-- 0xCB 0x4E: `BIT 1,(HL)` (R332). -/
  | bit1AtHl
  /-- 0xCB 0x4F: `BIT 1,A` (R331). -/
  | bit1A
  /-- 0xCB 0x50: `BIT 2,B` (R331). -/
  | bit2B
  /-- 0xCB 0x51: `BIT 2,C` (R331). -/
  | bit2C
  /-- 0xCB 0x52: `BIT 2,D` (R331). -/
  | bit2D
  /-- 0xCB 0x53: `BIT 2,E` (R331). -/
  | bit2E
  /-- 0xCB 0x54: `BIT 2,H` (R331). -/
  | bit2H
  /-- 0xCB 0x55: `BIT 2,L` (R331). -/
  | bit2L
  /-- 0xCB 0x56: `BIT 2,(HL)` (R332). -/
  | bit2AtHl
  /-- 0xCB 0x57: `BIT 2,A` (R331). -/
  | bit2A
  /-- 0xCB 0x58: `BIT 3,B` (R331). -/
  | bit3B
  /-- 0xCB 0x59: `BIT 3,C` (R331). -/
  | bit3C
  /-- 0xCB 0x5A: `BIT 3,D` (R331). -/
  | bit3D
  /-- 0xCB 0x5B: `BIT 3,E` (R331). -/
  | bit3E
  /-- 0xCB 0x5C: `BIT 3,H` (R331). -/
  | bit3H
  /-- 0xCB 0x5D: `BIT 3,L` (R331). -/
  | bit3L
  /-- 0xCB 0x5E: `BIT 3,(HL)` (R332). -/
  | bit3AtHl
  /-- 0xCB 0x5F: `BIT 3,A` (R331). -/
  | bit3A
  /-- 0xCB 0x60: `BIT 4,B` (R331). -/
  | bit4B
  /-- 0xCB 0x61: `BIT 4,C` (R331). -/
  | bit4C
  /-- 0xCB 0x62: `BIT 4,D` (R331). -/
  | bit4D
  /-- 0xCB 0x63: `BIT 4,E` (R331). -/
  | bit4E
  /-- 0xCB 0x64: `BIT 4,H` (R331). -/
  | bit4H
  /-- 0xCB 0x65: `BIT 4,L` (R331). -/
  | bit4L
  /-- 0xCB 0x66: `BIT 4,(HL)` (R332). -/
  | bit4AtHl
  /-- 0xCB 0x67: `BIT 4,A` (R331). -/
  | bit4A
  /-- 0xCB 0x68: `BIT 5,B` (R331). -/
  | bit5B
  /-- 0xCB 0x69: `BIT 5,C` (R331). -/
  | bit5C
  /-- 0xCB 0x6A: `BIT 5,D` (R331). -/
  | bit5D
  /-- 0xCB 0x6B: `BIT 5,E` (R331). -/
  | bit5E
  /-- 0xCB 0x6C: `BIT 5,H` (R331). -/
  | bit5H
  /-- 0xCB 0x6D: `BIT 5,L` (R331). -/
  | bit5L
  /-- 0xCB 0x6E: `BIT 5,(HL)` (R332). -/
  | bit5AtHl
  /-- 0xCB 0x6F: `BIT 5,A` (R331). -/
  | bit5A
  /-- 0xCB 0x70: `BIT 6,B` (R331). -/
  | bit6B
  /-- 0xCB 0x71: `BIT 6,C` (R331). -/
  | bit6C
  /-- 0xCB 0x72: `BIT 6,D` (R331). -/
  | bit6D
  /-- 0xCB 0x73: `BIT 6,E` (R331). -/
  | bit6E
  /-- 0xCB 0x74: `BIT 6,H` (R331). -/
  | bit6H
  /-- 0xCB 0x75: `BIT 6,L` (R331). -/
  | bit6L
  /-- 0xCB 0x76: `BIT 6,(HL)` (R332). -/
  | bit6AtHl
  /-- 0xCB 0x77: `BIT 6,A` (R331). -/
  | bit6A
  /-- 0xCB 0x78: `BIT 7,B` (R331). -/
  | bit7B
  /-- 0xCB 0x79: `BIT 7,C` (R331). -/
  | bit7C
  /-- 0xCB 0x7A: `BIT 7,D` (R331). -/
  | bit7D
  /-- 0xCB 0x7B: `BIT 7,E` (R331). -/
  | bit7E
  /-- 0xCB 0x7C: `BIT 7,H` (R331). -/
  | bit7H
  /-- 0xCB 0x7D: `BIT 7,L` (R331). -/
  | bit7L
  /-- 0xCB 0x7E: `BIT 7,(HL)` (R332). -/
  | bit7AtHl
  /-- 0xCB 0x7F: `BIT 7,A` (R331). -/
  | bit7A
  /-- 0xCB 0x80: `RES 0,B` (R333). -/
  | res0B
  /-- 0xCB 0x81: `RES 0,C` (R333). -/
  | res0C
  /-- 0xCB 0x82: `RES 0,D` (R333). -/
  | res0D
  /-- 0xCB 0x83: `RES 0,E` (R333). -/
  | res0E
  /-- 0xCB 0x84: `RES 0,H` (R333). -/
  | res0H
  /-- 0xCB 0x85: `RES 0,L` (R333). -/
  | res0L
  /-- 0xCB 0x86: `RES 0,(HL)` (R334). -/
  | res0AtHl
  /-- 0xCB 0x87: `RES 0,A` (R333). -/
  | res0A
  /-- 0xCB 0x88: `RES 1,B` (R333). -/
  | res1B
  /-- 0xCB 0x89: `RES 1,C` (R333). -/
  | res1C
  /-- 0xCB 0x8A: `RES 1,D` (R333). -/
  | res1D
  /-- 0xCB 0x8B: `RES 1,E` (R333). -/
  | res1E
  /-- 0xCB 0x8C: `RES 1,H` (R333). -/
  | res1H
  /-- 0xCB 0x8D: `RES 1,L` (R333). -/
  | res1L
  /-- 0xCB 0x8E: `RES 1,(HL)` (R334). -/
  | res1AtHl
  /-- 0xCB 0x8F: `RES 1,A` (R333). -/
  | res1A
  /-- 0xCB 0x90: `RES 2,B` (R333). -/
  | res2B
  /-- 0xCB 0x91: `RES 2,C` (R333). -/
  | res2C
  /-- 0xCB 0x92: `RES 2,D` (R333). -/
  | res2D
  /-- 0xCB 0x93: `RES 2,E` (R333). -/
  | res2E
  /-- 0xCB 0x94: `RES 2,H` (R333). -/
  | res2H
  /-- 0xCB 0x95: `RES 2,L` (R333). -/
  | res2L
  /-- 0xCB 0x96: `RES 2,(HL)` (R334). -/
  | res2AtHl
  /-- 0xCB 0x97: `RES 2,A` (R333). -/
  | res2A
  /-- 0xCB 0x98: `RES 3,B` (R333). -/
  | res3B
  /-- 0xCB 0x99: `RES 3,C` (R333). -/
  | res3C
  /-- 0xCB 0x9A: `RES 3,D` (R333). -/
  | res3D
  /-- 0xCB 0x9B: `RES 3,E` (R333). -/
  | res3E
  /-- 0xCB 0x9C: `RES 3,H` (R333). -/
  | res3H
  /-- 0xCB 0x9D: `RES 3,L` (R333). -/
  | res3L
  /-- 0xCB 0x9E: `RES 3,(HL)` (R334). -/
  | res3AtHl
  /-- 0xCB 0x9F: `RES 3,A` (R333). -/
  | res3A
  /-- 0xCB 0xA0: `RES 4,B` (R333). -/
  | res4B
  /-- 0xCB 0xA1: `RES 4,C` (R333). -/
  | res4C
  /-- 0xCB 0xA2: `RES 4,D` (R333). -/
  | res4D
  /-- 0xCB 0xA3: `RES 4,E` (R333). -/
  | res4E
  /-- 0xCB 0xA4: `RES 4,H` (R333). -/
  | res4H
  /-- 0xCB 0xA5: `RES 4,L` (R333). -/
  | res4L
  /-- 0xCB 0xA6: `RES 4,(HL)` (R334). -/
  | res4AtHl
  /-- 0xCB 0xA7: `RES 4,A` (R333). -/
  | res4A
  /-- 0xCB 0xA8: `RES 5,B` (R333). -/
  | res5B
  /-- 0xCB 0xA9: `RES 5,C` (R333). -/
  | res5C
  /-- 0xCB 0xAA: `RES 5,D` (R333). -/
  | res5D
  /-- 0xCB 0xAB: `RES 5,E` (R333). -/
  | res5E
  /-- 0xCB 0xAC: `RES 5,H` (R333). -/
  | res5H
  /-- 0xCB 0xAD: `RES 5,L` (R333). -/
  | res5L
  /-- 0xCB 0xAE: `RES 5,(HL)` (R334). -/
  | res5AtHl
  /-- 0xCB 0xAF: `RES 5,A` (R333). -/
  | res5A
  /-- 0xCB 0xB0: `RES 6,B` (R333). -/
  | res6B
  /-- 0xCB 0xB1: `RES 6,C` (R333). -/
  | res6C
  /-- 0xCB 0xB2: `RES 6,D` (R333). -/
  | res6D
  /-- 0xCB 0xB3: `RES 6,E` (R333). -/
  | res6E
  /-- 0xCB 0xB4: `RES 6,H` (R333). -/
  | res6H
  /-- 0xCB 0xB5: `RES 6,L` (R333). -/
  | res6L
  /-- 0xCB 0xB6: `RES 6,(HL)` (R334). -/
  | res6AtHl
  /-- 0xCB 0xB7: `RES 6,A` (R333). -/
  | res6A
  /-- 0xCB 0xB8: `RES 7,B` (R333). -/
  | res7B
  /-- 0xCB 0xB9: `RES 7,C` (R333). -/
  | res7C
  /-- 0xCB 0xBA: `RES 7,D` (R333). -/
  | res7D
  /-- 0xCB 0xBB: `RES 7,E` (R333). -/
  | res7E
  /-- 0xCB 0xBC: `RES 7,H` (R333). -/
  | res7H
  /-- 0xCB 0xBD: `RES 7,L` (R333). -/
  | res7L
  /-- 0xCB 0xBE: `RES 7,(HL)` (R334). -/
  | res7AtHl
  /-- 0xCB 0xBF: `RES 7,A` (R333). -/
  | res7A
  /-- 0xCB 0xC0: `SET 0,B` (R335). -/
  | set0B
  /-- 0xCB 0xC1: `SET 0,C` (R335). -/
  | set0C
  /-- 0xCB 0xC2: `SET 0,D` (R335). -/
  | set0D
  /-- 0xCB 0xC3: `SET 0,E` (R335). -/
  | set0E
  /-- 0xCB 0xC4: `SET 0,H` (R335). -/
  | set0H
  /-- 0xCB 0xC5: `SET 0,L` (R335). -/
  | set0L
  /-- 0xCB 0xC6: `SET 0,(HL)` (R336). -/
  | set0AtHl
  /-- 0xCB 0xC7: `SET 0,A` (R335). -/
  | set0A
  /-- 0xCB 0xC8: `SET 1,B` (R335). -/
  | set1B
  /-- 0xCB 0xC9: `SET 1,C` (R335). -/
  | set1C
  /-- 0xCB 0xCA: `SET 1,D` (R335). -/
  | set1D
  /-- 0xCB 0xCB: `SET 1,E` (R335). -/
  | set1E
  /-- 0xCB 0xCC: `SET 1,H` (R335). -/
  | set1H
  /-- 0xCB 0xCD: `SET 1,L` (R335). -/
  | set1L
  /-- 0xCB 0xCE: `SET 1,(HL)` (R336). -/
  | set1AtHl
  /-- 0xCB 0xCF: `SET 1,A` (R335). -/
  | set1A
  /-- 0xCB 0xD0: `SET 2,B` (R335). -/
  | set2B
  /-- 0xCB 0xD1: `SET 2,C` (R335). -/
  | set2C
  /-- 0xCB 0xD2: `SET 2,D` (R335). -/
  | set2D
  /-- 0xCB 0xD3: `SET 2,E` (R335). -/
  | set2E
  /-- 0xCB 0xD4: `SET 2,H` (R335). -/
  | set2H
  /-- 0xCB 0xD5: `SET 2,L` (R335). -/
  | set2L
  /-- 0xCB 0xD6: `SET 2,(HL)` (R336). -/
  | set2AtHl
  /-- 0xCB 0xD7: `SET 2,A` (R335). -/
  | set2A
  /-- 0xCB 0xD8: `SET 3,B` (R335). -/
  | set3B
  /-- 0xCB 0xD9: `SET 3,C` (R335). -/
  | set3C
  /-- 0xCB 0xDA: `SET 3,D` (R335). -/
  | set3D
  /-- 0xCB 0xDB: `SET 3,E` (R335). -/
  | set3E
  /-- 0xCB 0xDC: `SET 3,H` (R335). -/
  | set3H
  /-- 0xCB 0xDD: `SET 3,L` (R335). -/
  | set3L
  /-- 0xCB 0xDE: `SET 3,(HL)` (R336). -/
  | set3AtHl
  /-- 0xCB 0xDF: `SET 3,A` (R335). -/
  | set3A
  /-- 0xCB 0xE0: `SET 4,B` (R335). -/
  | set4B
  /-- 0xCB 0xE1: `SET 4,C` (R335). -/
  | set4C
  /-- 0xCB 0xE2: `SET 4,D` (R335). -/
  | set4D
  /-- 0xCB 0xE3: `SET 4,E` (R335). -/
  | set4E
  /-- 0xCB 0xE4: `SET 4,H` (R335). -/
  | set4H
  /-- 0xCB 0xE5: `SET 4,L` (R335). -/
  | set4L
  /-- 0xCB 0xE6: `SET 4,(HL)` (R336). -/
  | set4AtHl
  /-- 0xCB 0xE7: `SET 4,A` (R335). -/
  | set4A
  /-- 0xCB 0xE8: `SET 5,B` (R335). -/
  | set5B
  /-- 0xCB 0xE9: `SET 5,C` (R335). -/
  | set5C
  /-- 0xCB 0xEA: `SET 5,D` (R335). -/
  | set5D
  /-- 0xCB 0xEB: `SET 5,E` (R335). -/
  | set5E
  /-- 0xCB 0xEC: `SET 5,H` (R335). -/
  | set5H
  /-- 0xCB 0xED: `SET 5,L` (R335). -/
  | set5L
  /-- 0xCB 0xEE: `SET 5,(HL)` (R336). -/
  | set5AtHl
  /-- 0xCB 0xEF: `SET 5,A` (R335). -/
  | set5A
  /-- 0xCB 0xF0: `SET 6,B` (R335). -/
  | set6B
  /-- 0xCB 0xF1: `SET 6,C` (R335). -/
  | set6C
  /-- 0xCB 0xF2: `SET 6,D` (R335). -/
  | set6D
  /-- 0xCB 0xF3: `SET 6,E` (R335). -/
  | set6E
  /-- 0xCB 0xF4: `SET 6,H` (R335). -/
  | set6H
  /-- 0xCB 0xF5: `SET 6,L` (R335). -/
  | set6L
  /-- 0xCB 0xF6: `SET 6,(HL)` (R336). -/
  | set6AtHl
  /-- 0xCB 0xF7: `SET 6,A` (R335). -/
  | set6A
  /-- 0xCB 0xF8: `SET 7,B` (R335). -/
  | set7B
  /-- 0xCB 0xF9: `SET 7,C` (R335). -/
  | set7C
  /-- 0xCB 0xFA: `SET 7,D` (R335). -/
  | set7D
  /-- 0xCB 0xFB: `SET 7,E` (R335). -/
  | set7E
  /-- 0xCB 0xFC: `SET 7,H` (R335). -/
  | set7H
  /-- 0xCB 0xFD: `SET 7,L` (R335). -/
  | set7L
  /-- 0xCB 0xFE: `SET 7,(HL)` (R336). -/
  | set7AtHl
  /-- 0xCB 0xFF: `SET 7,A` (R335). -/
  | set7A
  deriving DecidableEq, Repr

end Sys2Proof
end

