-- ==== Sys2Proof/WellFormed.lean ====
section
/-! DEFINITION. Which terms of `Instr` are instructions: the displacement of an `OP_E8` row lies in -128 to 127 (30_encoding.md
R112). The other operands carry their range in their type (R110, R111), and every constructor without operands is an
instruction as it stands. -/

namespace Sys2Proof

/-- The range of a signed displacement (R112). -/
def dispInRange (e : Int) : Bool := decide (-128 ≤ e) && decide (e ≤ 127)

/-- The check of an instruction's operands. The seven rows with a displacement are named; no other row has an operand whose
type admits a value that the encoding does not. -/
def Instr.WellFormed : Instr → Bool
  | .jrE e => dispInRange e
  | .jrNzE e => dispInRange e
  | .jrZE e => dispInRange e
  | .jrNcE e => dispInRange e
  | .jrCE e => dispInRange e
  | .addSpE e => dispInRange e
  | .ldHlSpE e => dispInRange e
  | _ => true

end Sys2Proof
end

