-- ==== Sys2Proof/Machine/State.lean ====
section
/-! DEFINITION. The state of the machine (10_state.md; 20_memory.md R75), the two faults (60_exceptions.md R380), the refusal,
and the state after power-on (10_state.md R45; 70_reset_and_hazards.md R410). -/

namespace Sys2Proof.Machine

/-- The 65536 bytes (R41) in one canonical form, `Memory.wf` of Ops.lean: (address, byte) pairs with strictly rising addresses and no
pair that says what an unlisted address reads as anyway (log 2). -/
abbrev Memory := List Host.Cell

/-- The pending IME edge (R40). -/
inductive Pending where
  | idle
  | pendingEnable
  | pendingDisable
  deriving DecidableEq, Repr

/-- The registers (R30, R33, R37, R38), the interrupt state (R39, R40) and the memory (R41, R75), with the two parameters of R5
that a meaning reads. Pairs are views (R31) and are no fields. -/
structure State where
  /-- A, the accumulator. -/
  a : Byte
  /-- F: Z bit 7, N bit 6, H bit 5, C bit 4; bits 3 to 0 are no flag and are kept (R33, R34). -/
  f : Byte
  b : Byte
  c : Byte
  d : Byte
  e : Byte
  h : Byte
  l : Byte
  /-- The stack pointer. -/
  sp : Word
  /-- The address of the next instruction's first byte. -/
  pc : Word
  /-- The interrupt master enable. -/
  ime : Bool
  /-- The IME edge the next successful step applies at its start (40_dispatch.md R144). -/
  pending : Pending
  mem : Memory
  /-- The model's own field: the parameters of R5, which no step writes (log 1). -/
  params : Params
  deriving DecidableEq, Repr

/-- The two faults of the block (60_exceptions.md R380). A fault leaves the state as it was before the step (R147, R383), so it carries no state. -/
inductive Fault where
  /-- Raised by the meanings of HALT, STOP and the eleven unassigned opcodes (R143, R152 to R154, R382), with the primary opcode
  and the address of the instruction. Safe: it is the stop the spec itself prescribes. -/
  | unimplementedOpcode (opcode : Byte) (pc : Word)
  /-- Raised by `FetchSource.fetch` for a needed instruction byte outside a `HostBuffer` (R141, R381), with the index that was out of range; never in
  `ClosedMemory`, hence never by `step`. Safe: it is the stop the spec itself prescribes. -/
  | addressingError (index : Int)
  deriving DecidableEq, Repr

/-- Why an instruction has no meaning in the model. No arm of `exec` answers it: every row of the table has its meaning. -/
inductive Refusal where
  /-- Raised by an arm of `exec` alone, for a row with no meaning yet. Safe: nothing is claimed of the row. -/
  | notModelled (mnemonic : String)
  deriving DecidableEq, Repr

/-- What the meaning of an instruction answers. -/
abbrev Result := Host.Outcome State Fault Refusal

/-- The power-on state for given parameters and a given `MemInit` (R45): every register as R45 lists it. -/
def State.powerOn (params : Params) (memInit : Memory) : State :=
  { a := 0x00, f := 0x00, b := 0x00, c := 0x00, d := 0x00, e := 0x00, h := 0x00, l := 0x00,
    sp := 0xFFFE, pc := 0x0000, ime := false, pending := .idle, mem := memInit, params := params }

/-- The state after reset: power-on with the default parameters (R5) and a memory that lists nothing (log 2). -/
def State.reset : State := State.powerOn Config.defaultParams []

end Sys2Proof.Machine
end

