-- ==== Sys2Proof/Machine/Flags.lean ====
section
/-! DEFINITION. The flag bits of F (10_state.md R33), the condition codes (R36) and every result-and-flags computation of 43_arithmetic.md and 44_logic_bit.md, on
unmasked integers as the rules write them (00_scope.md R7). -/

namespace Sys2Proof.Machine

/-! ## F (R33) -/

/-- F.Z, bit 7. -/
def flagZ (f : Byte) : Bool := f.getLsbD 7

/-- F.N, bit 6. -/
def flagN (f : Byte) : Bool := f.getLsbD 6

/-- F.H, bit 5. -/
def flagH (f : Byte) : Bool := f.getLsbD 5

/-- F.C, bit 4. -/
def flagC (f : Byte) : Bool := f.getLsbD 4

/-- F[3:0], which carry no flag. -/
def lowNibble (f : Byte) : BitVec 4 := f.extractLsb' 0 4

/-- F with its four flags written and F[3:0] kept (R34). A rule that leaves a flag unchanged gives that flag's old value here. -/
def withFlags (f : Byte) (z n h c : Bool) : Byte :=
  BitVec.ofBool z ++ BitVec.ofBool n ++ BitVec.ofBool h ++ BitVec.ofBool c ++ lowNibble f

/-- The four flags written (R8). -/
def State.setFlags (s : State) (z n h c : Bool) : State := { s with f := withFlags s.f z n h c }

/-- The predicate of a condition on F (R36). -/
def condHolds (cc : Cond) (f : Byte) : Bool :=
  match cc with
  | .nz => !flagZ f
  | .z => flagZ f
  | .nc => !flagC f
  | .c => flagC f

/-! ## 8-bit arithmetic (R250, R251) and logic (R300) -/

/-- A result with the four flags a computation gives. -/
structure Alu where
  res : Byte
  z : Bool
  n : Bool
  h : Bool
  c : Bool
  deriving DecidableEq, Repr

/-- `Add8(a, b, cin)` (R250). -/
def add8 (a b : Byte) (cin : Bool) : Alu :=
  let t : Nat := a.toNat + b.toNat + cin.toNat
  { res := u8 t
    z := u8 t == 0
    n := false
    h := ((a.toNat &&& 0xF) + (b.toNat &&& 0xF) + cin.toNat) &&& 0x10 != 0
    c := decide (t > 0xFF) }

/-- `Sub8(a, b, cin)` (R251). -/
def sub8 (a b : Byte) (cin : Bool) : Alu :=
  let t : Int := a.toNat - b.toNat - cin.toNat
  { res := u8 t
    z := u8 t == 0
    n := true
    h := decide (((a.toNat &&& 0xF : Nat) : Int) - ((b.toNat &&& 0xF : Nat) : Int) - cin.toNat < 0)
    c := decide (t < 0) }

/-- `Logic8` (R300): every flag reset, Z from the result, H set by AND alone. -/
def logic8 (res : Byte) (isAnd : Bool) : Alu :=
  { res := res, z := res == 0, n := false, h := isAnd, c := false }

/-- The eight operations of the ALU field (R107) on A, the operand and the carry flag: ADC and SBC alone take the carry in. -/
def alu (op : AluOp) (a v : Byte) (carry : Bool) : Alu :=
  match op with
  | .add => add8 a v false
  | .adc => add8 a v carry
  | .sub => sub8 a v false
  | .sbc => sub8 a v carry
  | .and => logic8 (a &&& v) true
  | .xor => logic8 (a ^^^ v) false
  | .or => logic8 (a ||| v) false
  | .cp => sub8 a v false

/-- DAA on A (R271): the new A and the new carry. -/
def daaAdjust (a f : Byte) : Byte × Bool :=
  let v : Int := a.toNat
  if flagN f then
    let v := if flagC f then v - 0x60 else v
    let v := if flagH f then v - 0x06 else v
    (u8 v, flagC f)
  else
    let high := flagC f || decide (v > 0x99)
    let v := if high then v + 0x60 else v
    let v := if flagH f || decide (v % 16 > 0x09) then v + 0x06 else v
    (u8 v, high)

/-! ## 16-bit arithmetic -/

/-- The carry out of bit 11 of a 16-bit sum (R277). -/
def halfCarry16 (a b : Word) : Bool := decide ((a.toNat &&& 0x0FFF) + (b.toNat &&& 0x0FFF) > 0x0FFF)

/-- The carry out of bit 15 of a 16-bit sum (R277). -/
def carry16 (a b : Word) : Bool := decide (a.toNat + b.toNat > 0xFFFF)

/-- The value of `AddSpE(s, n)` (R278). -/
def addSpEValue (s : Word) (n : Byte) : Word := u16 (s.toNat + s8 n)

/-- The half carry of `AddSpE(s, n)` (R278): that of the unsigned addition of n to the low byte. -/
def addSpEHalf (s : Word) (n : Byte) : Bool := decide ((s.toNat &&& 0x0F) + (n.toNat &&& 0x0F) > 0x0F)

/-- The carry of `AddSpE(s, n)` (R278). -/
def addSpECarry (s : Word) (n : Byte) : Bool := decide ((s.toNat &&& 0xFF) + n.toNat > 0xFF)

/-! ## Rotates and shifts (R310) -/

/-- The result of `Shift8(op, v, cin)`. -/
def shiftResult (op : RotOp) (v : Byte) (cin : Bool) : Byte :=
  match op with
  | .rlc => (v <<< 1) ||| bitByte (v.getLsbD 7)
  | .rrc => (v >>> 1) ||| (bitByte (v.getLsbD 0) <<< 7)
  | .rl => (v <<< 1) ||| bitByte cin
  | .rr => (v >>> 1) ||| (bitByte cin <<< 7)
  | .sla => v <<< 1
  | .sra => (v >>> 1) ||| (v &&& 0x80)
  | .swap => (v <<< 4) ||| (v >>> 4)
  | .srl => v >>> 1

/-- The carry out of `Shift8(op, v, cin)`. -/
def shiftCarry (op : RotOp) (v : Byte) : Bool :=
  match op with
  | .rlc => v.getLsbD 7
  | .rrc => v.getLsbD 0
  | .rl => v.getLsbD 7
  | .rr => v.getLsbD 0
  | .sla => v.getLsbD 7
  | .sra => v.getLsbD 0
  | .swap => false
  | .srl => v.getLsbD 0

/-- F[3:0] of a popped F as `F_LOW_NIBBLE_MASK` has it (R364). -/
def poppedF (p : Params) (v : Byte) : Byte := if p.fLowNibbleMask then v &&& 0xF0 else v

/-- The Z flag of the one-byte rotates as `ROTATE_A_Z` has it (R311 to R314). -/
def rotateAZero (p : Params) (res : Byte) : Bool :=
  match p.rotateAZ with
  | .clear => false
  | .fromResult => res == 0

end Sys2Proof.Machine
end

