-- ==== Sys2Proof/Machine/Cycles.lean ====
section
/-! DEFINITION. The cycle count a successful step returns: the tables of 70_reset_and_hazards.md R414. No state depends on it (R415). -/

namespace Sys2Proof.Machine

/-- An entry of the cycle table. -/
inductive CycleEntry where
  /-- The same count always. -/
  | always (n : Nat)
  /-- `t/n`: the count when the condition holds, and when it does not. -/
  | branch (taken notTaken : Nat)
  /-- An opcode that returns no count of its own: it faults, or it is the prefix. -/
  | none
  deriving DecidableEq, Repr

/-- Row 0x of the primary table. -/
def cycleRow0 : List CycleEntry :=
  [.always 4, .always 12, .always 8, .always 8, .always 4, .always 4, .always 8, .always 4,
   .always 20, .always 8, .always 8, .always 8, .always 4, .always 4, .always 8, .always 4]

/-- Row 1x of the primary table. -/
def cycleRow1 : List CycleEntry :=
  [.none, .always 12, .always 8, .always 8, .always 4, .always 4, .always 8, .always 4,
   .always 12, .always 8, .always 8, .always 8, .always 4, .always 4, .always 8, .always 4]

/-- Row 2x of the primary table. -/
def cycleRow2 : List CycleEntry :=
  [.branch 12 8, .always 12, .always 8, .always 8, .always 4, .always 4, .always 8, .always 4,
   .branch 12 8, .always 8, .always 8, .always 8, .always 4, .always 4, .always 8, .always 4]

/-- Row 3x of the primary table. -/
def cycleRow3 : List CycleEntry :=
  [.branch 12 8, .always 12, .always 8, .always 8, .always 12, .always 12, .always 12, .always 4,
   .branch 12 8, .always 8, .always 8, .always 8, .always 4, .always 4, .always 8, .always 4]

/-- Row 4x of the primary table. -/
def cycleRow4 : List CycleEntry :=
  [.always 4, .always 4, .always 4, .always 4, .always 4, .always 4, .always 8, .always 4,
   .always 4, .always 4, .always 4, .always 4, .always 4, .always 4, .always 8, .always 4]

/-- Row 5x of the primary table. -/
def cycleRow5 : List CycleEntry :=
  [.always 4, .always 4, .always 4, .always 4, .always 4, .always 4, .always 8, .always 4,
   .always 4, .always 4, .always 4, .always 4, .always 4, .always 4, .always 8, .always 4]

/-- Row 6x of the primary table. -/
def cycleRow6 : List CycleEntry :=
  [.always 4, .always 4, .always 4, .always 4, .always 4, .always 4, .always 8, .always 4,
   .always 4, .always 4, .always 4, .always 4, .always 4, .always 4, .always 8, .always 4]

/-- Row 7x of the primary table. -/
def cycleRow7 : List CycleEntry :=
  [.always 8, .always 8, .always 8, .always 8, .always 8, .always 8, .none, .always 8,
   .always 4, .always 4, .always 4, .always 4, .always 4, .always 4, .always 8, .always 4]

/-- Row 8x of the primary table. -/
def cycleRow8 : List CycleEntry :=
  [.always 4, .always 4, .always 4, .always 4, .always 4, .always 4, .always 8, .always 4,
   .always 4, .always 4, .always 4, .always 4, .always 4, .always 4, .always 8, .always 4]

/-- Row 9x of the primary table. -/
def cycleRow9 : List CycleEntry :=
  [.always 4, .always 4, .always 4, .always 4, .always 4, .always 4, .always 8, .always 4,
   .always 4, .always 4, .always 4, .always 4, .always 4, .always 4, .always 8, .always 4]

/-- Row Ax of the primary table. -/
def cycleRowA : List CycleEntry :=
  [.always 4, .always 4, .always 4, .always 4, .always 4, .always 4, .always 8, .always 4,
   .always 4, .always 4, .always 4, .always 4, .always 4, .always 4, .always 8, .always 4]

/-- Row Bx of the primary table. -/
def cycleRowB : List CycleEntry :=
  [.always 4, .always 4, .always 4, .always 4, .always 4, .always 4, .always 8, .always 4,
   .always 4, .always 4, .always 4, .always 4, .always 4, .always 4, .always 8, .always 4]

/-- Row Cx of the primary table. -/
def cycleRowC : List CycleEntry :=
  [.branch 20 8, .always 12, .branch 16 12, .always 16, .branch 24 12, .always 16, .always 8, .always 16,
   .branch 20 8, .always 16, .branch 16 12, .none, .branch 24 12, .always 24, .always 8, .always 16]

/-- Row Dx of the primary table. -/
def cycleRowD : List CycleEntry :=
  [.branch 20 8, .always 12, .branch 16 12, .none, .branch 24 12, .always 16, .always 8, .always 16,
   .branch 20 8, .always 16, .branch 16 12, .none, .branch 24 12, .none, .always 8, .always 16]

/-- Row Ex of the primary table. -/
def cycleRowE : List CycleEntry :=
  [.always 12, .always 12, .always 8, .none, .none, .always 16, .always 8, .always 16,
   .always 16, .always 4, .always 16, .none, .none, .none, .always 8, .always 16]

/-- Row Fx of the primary table. -/
def cycleRowF : List CycleEntry :=
  [.always 12, .always 12, .always 8, .always 4, .none, .always 16, .always 8, .always 16,
   .always 12, .always 8, .always 16, .always 4, .none, .none, .always 8, .always 16]

/-- The rows of the primary table, by high nibble. -/
def cycleTable : List (List CycleEntry) :=
  [cycleRow0, cycleRow1, cycleRow2, cycleRow3, cycleRow4, cycleRow5, cycleRow6, cycleRow7, cycleRow8, cycleRow9, cycleRowA,
   cycleRowB, cycleRowC, cycleRowD, cycleRowE, cycleRowF]

/-- The entry of a primary opcode. -/
def primaryCycles (op : Byte) : CycleEntry := (cycleTable.getD (op.toNat / 16) []).getD (op.toNat % 16) .none

/-- The count of a 0xCB-prefixed instruction, both bytes: a register operand 8; `BIT b,(HL)` 12; any other (HL) 16. -/
def extendedCycles (op : Byte) : Nat :=
  if fieldZ op = 6 then (if fieldX op = 1 then 12 else 16) else 8

/-- The count of an entry, given whether the condition holds. -/
def CycleEntry.count (entry : CycleEntry) (taken : Bool) : Nat :=
  match entry with
  | .always n => n
  | .branch t n => if taken then t else n
  | .none => 0

/-- The cycle count of an instruction in a state: the condition of a conditional row is in y[1:0] of its opcode (R106). -/
def cycles (i : Instr) (s : State) : Nat :=
  let op := (encode i).headD 0
  if op = 0xCB then extendedCycles ((encode i).getD 1 0)
  else (primaryCycles op).count (condHolds (condOf (fieldY op)) s.f)

end Sys2Proof.Machine
end

