-- ==== Sys2Proof/Machine/Ops.lean ====
section
/-! DEFINITION. The named operations over memory and registers: the byte port (20_memory.md R70 to R74), registers and pairs (10_state.md R30 to R32), pc
and jumps (40_dispatch.md R145), the stack primitives (45_stack.md R360, R361), the pending IME edge (40_dispatch.md R144), raising the fault of
an unimplemented opcode, which is all the block has of an exception entry (60_exceptions.md R383), and the IME write of RETI, which is all it has of a return (R386). -/

namespace Sys2Proof.Machine

/-! ## Memory -/

/-- What an address that memory does not list reads as (log 2). -/
def Memory.unlisted : Byte := 0x00

/-- The byte at an address. -/
def Memory.lookup : Memory → Nat → Byte
  | [], _ => Memory.unlisted
  | (k, v) :: m, a => if k = a then v else Memory.lookup m a

/-- Memory without any pair for an address. -/
def Memory.forget : Memory → Nat → Memory
  | [], _ => []
  | (k, v) :: m, a => if k = a then Memory.forget m a else (k, v) :: Memory.forget m a

/-- A pair put before the first pair with a greater address. -/
def Memory.place : Memory → Nat → Byte → Memory
  | [], a, v => [(a, v)]
  | (k, w) :: m, a, v => if a < k then (a, v) :: (k, w) :: m else (k, w) :: Memory.place m a v

/-- `read(address)` of the port (R70): the byte last written (R72). -/
def Memory.read (m : Memory) (a : Word) : Byte := m.lookup a.toNat

/-- `write(address, value)` of the port (R70), keeping the canonical form: the value an unlisted address reads as is not listed. -/
def Memory.write (m : Memory) (a : Word) (v : Byte) : Memory :=
  if v = Memory.unlisted then m.forget a.toNat else (m.forget a.toNat).place a.toNat v

/-- Bytes written at rising addresses from `a`, modulo 65536: how a `MemInit` is written down (R5). -/
def Memory.load (m : Memory) (a : Word) : List Byte → Memory
  | [] => m
  | v :: vs => Memory.load (m.write a v) (a + 1) vs

/-- The canonical form: addresses strictly rising and inside the 65536 bytes (R41), and no pair with the value an unlisted address reads as. -/
abbrev Memory.wf (m : Memory) : Prop :=
  m.Pairwise (fun p q => p.1 < q.1) ∧ ∀ p ∈ m, p.1 < 65536 ∧ p.2 ≠ Memory.unlisted

/-- `MemRead(a, 1)` (R9). -/
def State.read (s : State) (a : Word) : Byte := s.mem.read a

/-- `MemWrite(a, 1, v)` (R9). -/
def State.write (s : State) (a : Word) (v : Byte) : State := { s with mem := s.mem.write a v }

/-- `MemRead(a, 2)` (R9): little-endian, the second address modulo 65536 (R71, R73). -/
def State.read16 (s : State) (a : Word) : Word := joinBytes (s.read (a + 1)) (s.read a)

/-- `MemWrite(a, 2, v)` (R9): the low byte first, at the lower address (R73, R78). -/
def State.write16 (s : State) (a : Word) (v : Word) : State := (s.write a (loByte v)).write (a + 1) (hiByte v)

/-! ## Registers -/

/-- `x[r]` (R8). -/
def State.reg8 (s : State) : Reg8 → Byte
  | .b => s.b
  | .c => s.c
  | .d => s.d
  | .e => s.e
  | .h => s.h
  | .l => s.l
  | .a => s.a

/-- `x[r] <- v` (R8). -/
def State.setReg8 (s : State) (r : Reg8) (v : Byte) : State :=
  match r with
  | .b => { s with b := v }
  | .c => { s with c := v }
  | .d => { s with d := v }
  | .e => { s with e := v }
  | .h => { s with h := v }
  | .l => { s with l := v }
  | .a => { s with a := v }

/-- `x[rr]` (R31), and sp for the field value SP (R104). -/
def State.reg16 (s : State) : Reg16 → Word
  | .bc => joinBytes s.b s.c
  | .de => joinBytes s.d s.e
  | .hl => joinBytes s.h s.l
  | .sp => s.sp

/-- `x[rr] <- v` (R32). -/
def State.setReg16 (s : State) (rr : Reg16) (v : Word) : State :=
  match rr with
  | .bc => { s with b := hiByte v, c := loByte v }
  | .de => { s with d := hiByte v, e := loByte v }
  | .hl => { s with h := hiByte v, l := loByte v }
  | .sp => { s with sp := v }

/-- x[HL], the address of the operand (HL). -/
def State.hl (s : State) : Word := s.reg16 .hl

/-- `x[rr]` for the field `rp2` (R105): AF is A and all eight bits of F (R31). -/
def State.stackPair (s : State) : StackPair → Word
  | .bc => joinBytes s.b s.c
  | .de => joinBytes s.d s.e
  | .hl => joinBytes s.h s.l
  | .af => joinBytes s.a s.f

/-- `x[rr] <- v` for the field `rp2`; F takes the low byte whole, and POP AF has masked it already (R364). -/
def State.setStackPair (s : State) (rr : StackPair) (v : Word) : State :=
  match rr with
  | .bc => { s with b := hiByte v, c := loByte v }
  | .de => { s with d := hiByte v, e := loByte v }
  | .hl => { s with h := hiByte v, l := loByte v }
  | .af => { s with a := hiByte v, f := loByte v }

/-! ## The program counter -/

/-- `pc <- u16(pc + length)` (R145). -/
def State.advance (s : State) (length : Nat) : State := { s with pc := s.pc + BitVec.ofNat 16 length }

/-- `pc <- target` (R10). -/
def State.jump (s : State) (target : Word) : State := { s with pc := target }

/-! ## The stack -/

/-- `Push16(v)` (R360): sp down by 2, then the high byte at sp + 1 and the low byte at sp, written in that order (R78). -/
def State.push16 (s : State) (v : Word) : State :=
  let sp := s.sp - 2
  (({ s with sp := sp }).write (sp + 1) (hiByte v)).write sp (loByte v)

/-- The value `Pop16()` returns (R361). -/
def State.top16 (s : State) : Word := s.read16 s.sp

/-- What `Pop16()` leaves: sp up by 2, the bytes as they were (R361). -/
def State.drop16 (s : State) : State := { s with sp := s.sp + 2 }

/-! ## Interrupt state and faults -/

/-- The pending edge applied and cleared (R144). -/
def State.applyPendingEdge (s : State) : State :=
  match s.pending with
  | .idle => s
  | .pendingEnable => { s with ime := true, pending := .idle }
  | .pendingDisable => { s with ime := false, pending := .idle }

/-- `raise UnimplementedOpcode(opcode, pc)` (R143, R382): no state is changed, no vector is taken (R383). -/
def raiseUnimplemented (opcode : Byte) (s : State) : Result := .fault (.unimplementedOpcode opcode s.pc)

/-- `IME <- 1` at once: all that a return from an interrupt handler restores beside pc (R229, R386). -/
def State.enableInterrupts (s : State) : State := { s with ime := true }

end Sys2Proof.Machine
end

