-- ==== Sys2Proof/Machine/Operands.lean ====
section
/-! DEFINITION. The operand forms: the 8-bit operand field (30_encoding.md R103), the addresses an instruction forms (20_memory.md R71) and the targets of relative jumps
and RST (42_control.md R223, R230). -/

namespace Sys2Proof.Machine

/-- The value of an 8-bit operand: a register, or the byte at x[HL] (R103). -/
def State.operand (s : State) : Operand8 → Byte
  | .reg r => s.reg8 r
  | .atHl => s.read s.hl

/-- An 8-bit operand written. -/
def State.setOperand (s : State) (o : Operand8) (v : Byte) : State :=
  match o with
  | .reg r => s.setReg8 r v
  | .atHl => s.write s.hl v

/-- An address of the I/O page: 0xFF00 + n (R110, R181 to R184). -/
def ioAddress (n : Byte) : Word := 0xFF00 + n.setWidth 16

/-- The raw byte of a signed displacement (R112). -/
def dispByte (e : Int) : Byte := u8 e

/-- The target of a relative jump: the address after its two bytes, plus e (R223). -/
def State.relativeTarget (s : State) (e : Int) : Word := u16 (s.pc.toNat + 2 + e)

/-- The address of the instruction after this one (R145), which CALL and RST push. -/
def State.pcAfter (s : State) (length : Nat) : Word := s.pc + BitVec.ofNat 16 length

/-- The target of `RST t`: t = y * 8 (R109). -/
def rstTarget (y : Fin 8) : Word := BitVec.ofNat 16 (y.val * 8)

/-- Bit b of a byte (R109). -/
def bitOf (v : Byte) (b : Fin 8) : Bool := v.getLsbD b.val

/-- `1 << b`. -/
def bitMask (b : Fin 8) : Byte := 1 <<< b.val

end Sys2Proof.Machine
end

