-- ==== Sys2Proof/Machine/Arithmetic.lean ====
section
/-! DEFINITION. The arithmetic instructions (43_arithmetic.md R250 to R279), and the shared meaning of the eight ALU operations. -/

namespace Sys2Proof.Machine

/-- `alu A,v` for the eight operations of the ALU field (43_arithmetic.md R252 to R266, 44_logic_bit.md R301 to R309): the four flags written, and A unless the
operation is CP, which discards the result (R264). -/
def aluA (op : AluOp) (v : Byte) (length : Nat) (s : State) : Result :=
  let r := alu op s.a v (flagC s.f)
  let t := if op = .cp then s else s.setReg8 .a r.res
  .next ((t.setFlags r.z r.n r.h r.c).advance length)

/-- `INC r`, `INC (HL)` (R267, R268): C kept. -/
def incOperand (o : Operand8) (s : State) : Result :=
  let r := add8 (s.operand o) 1 false
  .next (((s.setOperand o r.res).setFlags r.z r.n r.h (flagC s.f)).advance 1)

/-- `DEC r`, `DEC (HL)` (R269, R270): C kept. -/
def decOperand (o : Operand8) (s : State) : Result :=
  let r := sub8 (s.operand o) 1 false
  .next (((s.setOperand o r.res).setFlags r.z r.n r.h (flagC s.f)).advance 1)

/-- `DAA` (R271): N kept, H cleared. -/
def decimalAdjust (s : State) : Result :=
  let r := daaAdjust s.a s.f
  .next (((s.setReg8 .a r.1).setFlags (r.1 == 0) (flagN s.f) false r.2).advance 1)

/-- `CPL` (R272): Z and C kept. -/
def complementA (s : State) : Result :=
  .next (((s.setReg8 .a (0xFF ^^^ s.a)).setFlags (flagZ s.f) true true (flagC s.f)).advance 1)

/-- `SCF` (R273) and `CCF` (R274): C as given, N and H cleared, Z kept. -/
def writeCarry (c : Bool) (s : State) : Result := .next ((s.setFlags (flagZ s.f) false false c).advance 1)

/-- `INC rr`, `DEC rr` (R275, R276): no flag. -/
def movePair (rr : Reg16) (delta : Word) (s : State) : Result :=
  .next ((s.setReg16 rr (s.reg16 rr + delta)).advance 1)

/-- `ADD HL,rr` (R277): Z kept. -/
def addToHl (rr : Reg16) (s : State) : Result :=
  let x := s.hl
  let y := s.reg16 rr
  .next (((s.setReg16 .hl (x + y)).setFlags (flagZ s.f) false (halfCarry16 x y) (carry16 x y)).advance 1)

/-- `ADD SP,e` (R279), with the value and flags of AddSpE (R278). -/
def addToSp (n : Byte) (s : State) : Result :=
  .next (((s.setReg16 .sp (addSpEValue s.sp n)).setFlags false false (addSpEHalf s.sp n) (addSpECarry s.sp n)).advance 2)

/-! ## The instructions -/

/-- `ADD A,B`, 0x80. -/
def execAddAB (s : State) : Result := aluA .add (s.reg8 .b) 1 s

/-- `ADD A,C`, 0x81. -/
def execAddAC (s : State) : Result := aluA .add (s.reg8 .c) 1 s

/-- `ADD A,D`, 0x82. -/
def execAddAD (s : State) : Result := aluA .add (s.reg8 .d) 1 s

/-- `ADD A,E`, 0x83. -/
def execAddAE (s : State) : Result := aluA .add (s.reg8 .e) 1 s

/-- `ADD A,H`, 0x84. -/
def execAddAH (s : State) : Result := aluA .add (s.reg8 .h) 1 s

/-- `ADD A,L`, 0x85. -/
def execAddAL (s : State) : Result := aluA .add (s.reg8 .l) 1 s

/-- `ADD A,A`, 0x87. -/
def execAddAA (s : State) : Result := aluA .add (s.reg8 .a) 1 s

/-- `ADD A,(HL)`, 0x86. -/
def execAddAAtHl (s : State) : Result := aluA .add (s.read s.hl) 1 s

/-- `ADD A,n`, 0xC6. -/
def execAddAN (n : Byte) (s : State) : Result := aluA .add n 2 s

/-- `ADC A,B`, 0x88. -/
def execAdcAB (s : State) : Result := aluA .adc (s.reg8 .b) 1 s

/-- `ADC A,C`, 0x89. -/
def execAdcAC (s : State) : Result := aluA .adc (s.reg8 .c) 1 s

/-- `ADC A,D`, 0x8A. -/
def execAdcAD (s : State) : Result := aluA .adc (s.reg8 .d) 1 s

/-- `ADC A,E`, 0x8B. -/
def execAdcAE (s : State) : Result := aluA .adc (s.reg8 .e) 1 s

/-- `ADC A,H`, 0x8C. -/
def execAdcAH (s : State) : Result := aluA .adc (s.reg8 .h) 1 s

/-- `ADC A,L`, 0x8D. -/
def execAdcAL (s : State) : Result := aluA .adc (s.reg8 .l) 1 s

/-- `ADC A,A`, 0x8F. -/
def execAdcAA (s : State) : Result := aluA .adc (s.reg8 .a) 1 s

/-- `ADC A,(HL)`, 0x8E. -/
def execAdcAAtHl (s : State) : Result := aluA .adc (s.read s.hl) 1 s

/-- `ADC A,n`, 0xCE. -/
def execAdcAN (n : Byte) (s : State) : Result := aluA .adc n 2 s

/-- `SUB A,B`, 0x90. -/
def execSubAB (s : State) : Result := aluA .sub (s.reg8 .b) 1 s

/-- `SUB A,C`, 0x91. -/
def execSubAC (s : State) : Result := aluA .sub (s.reg8 .c) 1 s

/-- `SUB A,D`, 0x92. -/
def execSubAD (s : State) : Result := aluA .sub (s.reg8 .d) 1 s

/-- `SUB A,E`, 0x93. -/
def execSubAE (s : State) : Result := aluA .sub (s.reg8 .e) 1 s

/-- `SUB A,H`, 0x94. -/
def execSubAH (s : State) : Result := aluA .sub (s.reg8 .h) 1 s

/-- `SUB A,L`, 0x95. -/
def execSubAL (s : State) : Result := aluA .sub (s.reg8 .l) 1 s

/-- `SUB A,A`, 0x97. -/
def execSubAA (s : State) : Result := aluA .sub (s.reg8 .a) 1 s

/-- `SUB A,(HL)`, 0x96. -/
def execSubAAtHl (s : State) : Result := aluA .sub (s.read s.hl) 1 s

/-- `SUB A,n`, 0xD6. -/
def execSubAN (n : Byte) (s : State) : Result := aluA .sub n 2 s

/-- `SBC A,B`, 0x98. -/
def execSbcAB (s : State) : Result := aluA .sbc (s.reg8 .b) 1 s

/-- `SBC A,C`, 0x99. -/
def execSbcAC (s : State) : Result := aluA .sbc (s.reg8 .c) 1 s

/-- `SBC A,D`, 0x9A. -/
def execSbcAD (s : State) : Result := aluA .sbc (s.reg8 .d) 1 s

/-- `SBC A,E`, 0x9B. -/
def execSbcAE (s : State) : Result := aluA .sbc (s.reg8 .e) 1 s

/-- `SBC A,H`, 0x9C. -/
def execSbcAH (s : State) : Result := aluA .sbc (s.reg8 .h) 1 s

/-- `SBC A,L`, 0x9D. -/
def execSbcAL (s : State) : Result := aluA .sbc (s.reg8 .l) 1 s

/-- `SBC A,A`, 0x9F. -/
def execSbcAA (s : State) : Result := aluA .sbc (s.reg8 .a) 1 s

/-- `SBC A,(HL)`, 0x9E. -/
def execSbcAAtHl (s : State) : Result := aluA .sbc (s.read s.hl) 1 s

/-- `SBC A,n`, 0xDE. -/
def execSbcAN (n : Byte) (s : State) : Result := aluA .sbc n 2 s

/-- `CP A,B`, 0xB8. -/
def execCpAB (s : State) : Result := aluA .cp (s.reg8 .b) 1 s

/-- `CP A,C`, 0xB9. -/
def execCpAC (s : State) : Result := aluA .cp (s.reg8 .c) 1 s

/-- `CP A,D`, 0xBA. -/
def execCpAD (s : State) : Result := aluA .cp (s.reg8 .d) 1 s

/-- `CP A,E`, 0xBB. -/
def execCpAE (s : State) : Result := aluA .cp (s.reg8 .e) 1 s

/-- `CP A,H`, 0xBC. -/
def execCpAH (s : State) : Result := aluA .cp (s.reg8 .h) 1 s

/-- `CP A,L`, 0xBD. -/
def execCpAL (s : State) : Result := aluA .cp (s.reg8 .l) 1 s

/-- `CP A,A`, 0xBF. -/
def execCpAA (s : State) : Result := aluA .cp (s.reg8 .a) 1 s

/-- `CP A,(HL)`, 0xBE. -/
def execCpAAtHl (s : State) : Result := aluA .cp (s.read s.hl) 1 s

/-- `CP A,n`, 0xFE. -/
def execCpAN (n : Byte) (s : State) : Result := aluA .cp n 2 s

/-- `INC B`, 0x04. -/
def execIncB (s : State) : Result := incOperand (.reg .b) s

/-- `INC C`, 0x0C. -/
def execIncC (s : State) : Result := incOperand (.reg .c) s

/-- `INC D`, 0x14. -/
def execIncD (s : State) : Result := incOperand (.reg .d) s

/-- `INC E`, 0x1C. -/
def execIncE (s : State) : Result := incOperand (.reg .e) s

/-- `INC H`, 0x24. -/
def execIncH (s : State) : Result := incOperand (.reg .h) s

/-- `INC L`, 0x2C. -/
def execIncL (s : State) : Result := incOperand (.reg .l) s

/-- `INC A`, 0x3C. -/
def execIncA (s : State) : Result := incOperand (.reg .a) s

/-- `INC (HL)`, 0x34. -/
def execIncAtHl (s : State) : Result := incOperand .atHl s

/-- `DEC B`, 0x05. -/
def execDecB (s : State) : Result := decOperand (.reg .b) s

/-- `DEC C`, 0x0D. -/
def execDecC (s : State) : Result := decOperand (.reg .c) s

/-- `DEC D`, 0x15. -/
def execDecD (s : State) : Result := decOperand (.reg .d) s

/-- `DEC E`, 0x1D. -/
def execDecE (s : State) : Result := decOperand (.reg .e) s

/-- `DEC H`, 0x25. -/
def execDecH (s : State) : Result := decOperand (.reg .h) s

/-- `DEC L`, 0x2D. -/
def execDecL (s : State) : Result := decOperand (.reg .l) s

/-- `DEC A`, 0x3D. -/
def execDecA (s : State) : Result := decOperand (.reg .a) s

/-- `DEC (HL)`, 0x35. -/
def execDecAtHl (s : State) : Result := decOperand .atHl s

/-- `DAA`, 0x27. -/
def execDaa (s : State) : Result := decimalAdjust s

/-- `CPL`, 0x2F. -/
def execCpl (s : State) : Result := complementA s

/-- `SCF`, 0x37. -/
def execScf (s : State) : Result := writeCarry true s

/-- `CCF`, 0x3F. -/
def execCcf (s : State) : Result := writeCarry (!flagC s.f) s

/-- `INC BC`, 0x03. -/
def execIncBc (s : State) : Result := movePair .bc 1 s

/-- `INC DE`, 0x13. -/
def execIncDe (s : State) : Result := movePair .de 1 s

/-- `INC HL`, 0x23. -/
def execIncHl (s : State) : Result := movePair .hl 1 s

/-- `INC SP`, 0x33. -/
def execIncSp (s : State) : Result := movePair .sp 1 s

/-- `DEC BC`, 0x0B. -/
def execDecBc (s : State) : Result := movePair .bc (-1) s

/-- `DEC DE`, 0x1B. -/
def execDecDe (s : State) : Result := movePair .de (-1) s

/-- `DEC HL`, 0x2B. -/
def execDecHl (s : State) : Result := movePair .hl (-1) s

/-- `DEC SP`, 0x3B. -/
def execDecSp (s : State) : Result := movePair .sp (-1) s

/-- `ADD HL,BC`, 0x09. -/
def execAddHlBc (s : State) : Result := addToHl .bc s

/-- `ADD HL,DE`, 0x19. -/
def execAddHlDe (s : State) : Result := addToHl .de s

/-- `ADD HL,HL`, 0x29. -/
def execAddHlHl (s : State) : Result := addToHl .hl s

/-- `ADD HL,SP`, 0x39. -/
def execAddHlSp (s : State) : Result := addToHl .sp s

/-- `ADD SP,e`, 0xE8. -/
def execAddSpE (e : Int) (s : State) : Result := addToSp (dispByte e) s

end Sys2Proof.Machine
end

