-- ==== Sys2Proof/Machine/Bits.lean ====
section
/-! DEFINITION. BIT, RES and SET (44_logic_bit.md R331 to R336). -/

namespace Sys2Proof.Machine

/-- `BIT b,r`, `BIT b,(HL)` (R331, R332): C kept, the operand only read. -/
def testBit (b : Fin 8) (o : Operand8) (s : State) : Result :=
  .next ((s.setFlags (!bitOf (s.operand o) b) false true (flagC s.f)).advance 2)

/-- `RES b,r`, `RES b,(HL)` (R333, R334): no flag. -/
def resetBit (b : Fin 8) (o : Operand8) (s : State) : Result :=
  .next ((s.setOperand o (s.operand o &&& ~~~ bitMask b)).advance 2)

/-- `SET b,r`, `SET b,(HL)` (R335, R336): no flag. -/
def setBit (b : Fin 8) (o : Operand8) (s : State) : Result :=
  .next ((s.setOperand o (s.operand o ||| bitMask b)).advance 2)

/-! ## The instructions -/

/-- `BIT 0,B`, 0xCB 0x40. -/
def execBit0B (s : State) : Result := testBit 0 (.reg .b) s

/-- `BIT 0,C`, 0xCB 0x41. -/
def execBit0C (s : State) : Result := testBit 0 (.reg .c) s

/-- `BIT 0,D`, 0xCB 0x42. -/
def execBit0D (s : State) : Result := testBit 0 (.reg .d) s

/-- `BIT 0,E`, 0xCB 0x43. -/
def execBit0E (s : State) : Result := testBit 0 (.reg .e) s

/-- `BIT 0,H`, 0xCB 0x44. -/
def execBit0H (s : State) : Result := testBit 0 (.reg .h) s

/-- `BIT 0,L`, 0xCB 0x45. -/
def execBit0L (s : State) : Result := testBit 0 (.reg .l) s

/-- `BIT 0,A`, 0xCB 0x47. -/
def execBit0A (s : State) : Result := testBit 0 (.reg .a) s

/-- `BIT 0,(HL)`, 0xCB 0x46. -/
def execBit0AtHl (s : State) : Result := testBit 0 .atHl s

/-- `BIT 1,B`, 0xCB 0x48. -/
def execBit1B (s : State) : Result := testBit 1 (.reg .b) s

/-- `BIT 1,C`, 0xCB 0x49. -/
def execBit1C (s : State) : Result := testBit 1 (.reg .c) s

/-- `BIT 1,D`, 0xCB 0x4A. -/
def execBit1D (s : State) : Result := testBit 1 (.reg .d) s

/-- `BIT 1,E`, 0xCB 0x4B. -/
def execBit1E (s : State) : Result := testBit 1 (.reg .e) s

/-- `BIT 1,H`, 0xCB 0x4C. -/
def execBit1H (s : State) : Result := testBit 1 (.reg .h) s

/-- `BIT 1,L`, 0xCB 0x4D. -/
def execBit1L (s : State) : Result := testBit 1 (.reg .l) s

/-- `BIT 1,A`, 0xCB 0x4F. -/
def execBit1A (s : State) : Result := testBit 1 (.reg .a) s

/-- `BIT 1,(HL)`, 0xCB 0x4E. -/
def execBit1AtHl (s : State) : Result := testBit 1 .atHl s

/-- `BIT 2,B`, 0xCB 0x50. -/
def execBit2B (s : State) : Result := testBit 2 (.reg .b) s

/-- `BIT 2,C`, 0xCB 0x51. -/
def execBit2C (s : State) : Result := testBit 2 (.reg .c) s

/-- `BIT 2,D`, 0xCB 0x52. -/
def execBit2D (s : State) : Result := testBit 2 (.reg .d) s

/-- `BIT 2,E`, 0xCB 0x53. -/
def execBit2E (s : State) : Result := testBit 2 (.reg .e) s

/-- `BIT 2,H`, 0xCB 0x54. -/
def execBit2H (s : State) : Result := testBit 2 (.reg .h) s

/-- `BIT 2,L`, 0xCB 0x55. -/
def execBit2L (s : State) : Result := testBit 2 (.reg .l) s

/-- `BIT 2,A`, 0xCB 0x57. -/
def execBit2A (s : State) : Result := testBit 2 (.reg .a) s

/-- `BIT 2,(HL)`, 0xCB 0x56. -/
def execBit2AtHl (s : State) : Result := testBit 2 .atHl s

/-- `BIT 3,B`, 0xCB 0x58. -/
def execBit3B (s : State) : Result := testBit 3 (.reg .b) s

/-- `BIT 3,C`, 0xCB 0x59. -/
def execBit3C (s : State) : Result := testBit 3 (.reg .c) s

/-- `BIT 3,D`, 0xCB 0x5A. -/
def execBit3D (s : State) : Result := testBit 3 (.reg .d) s

/-- `BIT 3,E`, 0xCB 0x5B. -/
def execBit3E (s : State) : Result := testBit 3 (.reg .e) s

/-- `BIT 3,H`, 0xCB 0x5C. -/
def execBit3H (s : State) : Result := testBit 3 (.reg .h) s

/-- `BIT 3,L`, 0xCB 0x5D. -/
def execBit3L (s : State) : Result := testBit 3 (.reg .l) s

/-- `BIT 3,A`, 0xCB 0x5F. -/
def execBit3A (s : State) : Result := testBit 3 (.reg .a) s

/-- `BIT 3,(HL)`, 0xCB 0x5E. -/
def execBit3AtHl (s : State) : Result := testBit 3 .atHl s

/-- `BIT 4,B`, 0xCB 0x60. -/
def execBit4B (s : State) : Result := testBit 4 (.reg .b) s

/-- `BIT 4,C`, 0xCB 0x61. -/
def execBit4C (s : State) : Result := testBit 4 (.reg .c) s

/-- `BIT 4,D`, 0xCB 0x62. -/
def execBit4D (s : State) : Result := testBit 4 (.reg .d) s

/-- `BIT 4,E`, 0xCB 0x63. -/
def execBit4E (s : State) : Result := testBit 4 (.reg .e) s

/-- `BIT 4,H`, 0xCB 0x64. -/
def execBit4H (s : State) : Result := testBit 4 (.reg .h) s

/-- `BIT 4,L`, 0xCB 0x65. -/
def execBit4L (s : State) : Result := testBit 4 (.reg .l) s

/-- `BIT 4,A`, 0xCB 0x67. -/
def execBit4A (s : State) : Result := testBit 4 (.reg .a) s

/-- `BIT 4,(HL)`, 0xCB 0x66. -/
def execBit4AtHl (s : State) : Result := testBit 4 .atHl s

/-- `BIT 5,B`, 0xCB 0x68. -/
def execBit5B (s : State) : Result := testBit 5 (.reg .b) s

/-- `BIT 5,C`, 0xCB 0x69. -/
def execBit5C (s : State) : Result := testBit 5 (.reg .c) s

/-- `BIT 5,D`, 0xCB 0x6A. -/
def execBit5D (s : State) : Result := testBit 5 (.reg .d) s

/-- `BIT 5,E`, 0xCB 0x6B. -/
def execBit5E (s : State) : Result := testBit 5 (.reg .e) s

/-- `BIT 5,H`, 0xCB 0x6C. -/
def execBit5H (s : State) : Result := testBit 5 (.reg .h) s

/-- `BIT 5,L`, 0xCB 0x6D. -/
def execBit5L (s : State) : Result := testBit 5 (.reg .l) s

/-- `BIT 5,A`, 0xCB 0x6F. -/
def execBit5A (s : State) : Result := testBit 5 (.reg .a) s

/-- `BIT 5,(HL)`, 0xCB 0x6E. -/
def execBit5AtHl (s : State) : Result := testBit 5 .atHl s

/-- `BIT 6,B`, 0xCB 0x70. -/
def execBit6B (s : State) : Result := testBit 6 (.reg .b) s

/-- `BIT 6,C`, 0xCB 0x71. -/
def execBit6C (s : State) : Result := testBit 6 (.reg .c) s

/-- `BIT 6,D`, 0xCB 0x72. -/
def execBit6D (s : State) : Result := testBit 6 (.reg .d) s

/-- `BIT 6,E`, 0xCB 0x73. -/
def execBit6E (s : State) : Result := testBit 6 (.reg .e) s

/-- `BIT 6,H`, 0xCB 0x74. -/
def execBit6H (s : State) : Result := testBit 6 (.reg .h) s

/-- `BIT 6,L`, 0xCB 0x75. -/
def execBit6L (s : State) : Result := testBit 6 (.reg .l) s

/-- `BIT 6,A`, 0xCB 0x77. -/
def execBit6A (s : State) : Result := testBit 6 (.reg .a) s

/-- `BIT 6,(HL)`, 0xCB 0x76. -/
def execBit6AtHl (s : State) : Result := testBit 6 .atHl s

/-- `BIT 7,B`, 0xCB 0x78. -/
def execBit7B (s : State) : Result := testBit 7 (.reg .b) s

/-- `BIT 7,C`, 0xCB 0x79. -/
def execBit7C (s : State) : Result := testBit 7 (.reg .c) s

/-- `BIT 7,D`, 0xCB 0x7A. -/
def execBit7D (s : State) : Result := testBit 7 (.reg .d) s

/-- `BIT 7,E`, 0xCB 0x7B. -/
def execBit7E (s : State) : Result := testBit 7 (.reg .e) s

/-- `BIT 7,H`, 0xCB 0x7C. -/
def execBit7H (s : State) : Result := testBit 7 (.reg .h) s

/-- `BIT 7,L`, 0xCB 0x7D. -/
def execBit7L (s : State) : Result := testBit 7 (.reg .l) s

/-- `BIT 7,A`, 0xCB 0x7F. -/
def execBit7A (s : State) : Result := testBit 7 (.reg .a) s

/-- `BIT 7,(HL)`, 0xCB 0x7E. -/
def execBit7AtHl (s : State) : Result := testBit 7 .atHl s

/-- `RES 0,B`, 0xCB 0x80. -/
def execRes0B (s : State) : Result := resetBit 0 (.reg .b) s

/-- `RES 0,C`, 0xCB 0x81. -/
def execRes0C (s : State) : Result := resetBit 0 (.reg .c) s

/-- `RES 0,D`, 0xCB 0x82. -/
def execRes0D (s : State) : Result := resetBit 0 (.reg .d) s

/-- `RES 0,E`, 0xCB 0x83. -/
def execRes0E (s : State) : Result := resetBit 0 (.reg .e) s

/-- `RES 0,H`, 0xCB 0x84. -/
def execRes0H (s : State) : Result := resetBit 0 (.reg .h) s

/-- `RES 0,L`, 0xCB 0x85. -/
def execRes0L (s : State) : Result := resetBit 0 (.reg .l) s

/-- `RES 0,A`, 0xCB 0x87. -/
def execRes0A (s : State) : Result := resetBit 0 (.reg .a) s

/-- `RES 0,(HL)`, 0xCB 0x86. -/
def execRes0AtHl (s : State) : Result := resetBit 0 .atHl s

/-- `RES 1,B`, 0xCB 0x88. -/
def execRes1B (s : State) : Result := resetBit 1 (.reg .b) s

/-- `RES 1,C`, 0xCB 0x89. -/
def execRes1C (s : State) : Result := resetBit 1 (.reg .c) s

/-- `RES 1,D`, 0xCB 0x8A. -/
def execRes1D (s : State) : Result := resetBit 1 (.reg .d) s

/-- `RES 1,E`, 0xCB 0x8B. -/
def execRes1E (s : State) : Result := resetBit 1 (.reg .e) s

/-- `RES 1,H`, 0xCB 0x8C. -/
def execRes1H (s : State) : Result := resetBit 1 (.reg .h) s

/-- `RES 1,L`, 0xCB 0x8D. -/
def execRes1L (s : State) : Result := resetBit 1 (.reg .l) s

/-- `RES 1,A`, 0xCB 0x8F. -/
def execRes1A (s : State) : Result := resetBit 1 (.reg .a) s

/-- `RES 1,(HL)`, 0xCB 0x8E. -/
def execRes1AtHl (s : State) : Result := resetBit 1 .atHl s

/-- `RES 2,B`, 0xCB 0x90. -/
def execRes2B (s : State) : Result := resetBit 2 (.reg .b) s

/-- `RES 2,C`, 0xCB 0x91. -/
def execRes2C (s : State) : Result := resetBit 2 (.reg .c) s

/-- `RES 2,D`, 0xCB 0x92. -/
def execRes2D (s : State) : Result := resetBit 2 (.reg .d) s

/-- `RES 2,E`, 0xCB 0x93. -/
def execRes2E (s : State) : Result := resetBit 2 (.reg .e) s

/-- `RES 2,H`, 0xCB 0x94. -/
def execRes2H (s : State) : Result := resetBit 2 (.reg .h) s

/-- `RES 2,L`, 0xCB 0x95. -/
def execRes2L (s : State) : Result := resetBit 2 (.reg .l) s

/-- `RES 2,A`, 0xCB 0x97. -/
def execRes2A (s : State) : Result := resetBit 2 (.reg .a) s

/-- `RES 2,(HL)`, 0xCB 0x96. -/
def execRes2AtHl (s : State) : Result := resetBit 2 .atHl s

/-- `RES 3,B`, 0xCB 0x98. -/
def execRes3B (s : State) : Result := resetBit 3 (.reg .b) s

/-- `RES 3,C`, 0xCB 0x99. -/
def execRes3C (s : State) : Result := resetBit 3 (.reg .c) s

/-- `RES 3,D`, 0xCB 0x9A. -/
def execRes3D (s : State) : Result := resetBit 3 (.reg .d) s

/-- `RES 3,E`, 0xCB 0x9B. -/
def execRes3E (s : State) : Result := resetBit 3 (.reg .e) s

/-- `RES 3,H`, 0xCB 0x9C. -/
def execRes3H (s : State) : Result := resetBit 3 (.reg .h) s

/-- `RES 3,L`, 0xCB 0x9D. -/
def execRes3L (s : State) : Result := resetBit 3 (.reg .l) s

/-- `RES 3,A`, 0xCB 0x9F. -/
def execRes3A (s : State) : Result := resetBit 3 (.reg .a) s

/-- `RES 3,(HL)`, 0xCB 0x9E. -/
def execRes3AtHl (s : State) : Result := resetBit 3 .atHl s

/-- `RES 4,B`, 0xCB 0xA0. -/
def execRes4B (s : State) : Result := resetBit 4 (.reg .b) s

/-- `RES 4,C`, 0xCB 0xA1. -/
def execRes4C (s : State) : Result := resetBit 4 (.reg .c) s

/-- `RES 4,D`, 0xCB 0xA2. -/
def execRes4D (s : State) : Result := resetBit 4 (.reg .d) s

/-- `RES 4,E`, 0xCB 0xA3. -/
def execRes4E (s : State) : Result := resetBit 4 (.reg .e) s

/-- `RES 4,H`, 0xCB 0xA4. -/
def execRes4H (s : State) : Result := resetBit 4 (.reg .h) s

/-- `RES 4,L`, 0xCB 0xA5. -/
def execRes4L (s : State) : Result := resetBit 4 (.reg .l) s

/-- `RES 4,A`, 0xCB 0xA7. -/
def execRes4A (s : State) : Result := resetBit 4 (.reg .a) s

/-- `RES 4,(HL)`, 0xCB 0xA6. -/
def execRes4AtHl (s : State) : Result := resetBit 4 .atHl s

/-- `RES 5,B`, 0xCB 0xA8. -/
def execRes5B (s : State) : Result := resetBit 5 (.reg .b) s

/-- `RES 5,C`, 0xCB 0xA9. -/
def execRes5C (s : State) : Result := resetBit 5 (.reg .c) s

/-- `RES 5,D`, 0xCB 0xAA. -/
def execRes5D (s : State) : Result := resetBit 5 (.reg .d) s

/-- `RES 5,E`, 0xCB 0xAB. -/
def execRes5E (s : State) : Result := resetBit 5 (.reg .e) s

/-- `RES 5,H`, 0xCB 0xAC. -/
def execRes5H (s : State) : Result := resetBit 5 (.reg .h) s

/-- `RES 5,L`, 0xCB 0xAD. -/
def execRes5L (s : State) : Result := resetBit 5 (.reg .l) s

/-- `RES 5,A`, 0xCB 0xAF. -/
def execRes5A (s : State) : Result := resetBit 5 (.reg .a) s

/-- `RES 5,(HL)`, 0xCB 0xAE. -/
def execRes5AtHl (s : State) : Result := resetBit 5 .atHl s

/-- `RES 6,B`, 0xCB 0xB0. -/
def execRes6B (s : State) : Result := resetBit 6 (.reg .b) s

/-- `RES 6,C`, 0xCB 0xB1. -/
def execRes6C (s : State) : Result := resetBit 6 (.reg .c) s

/-- `RES 6,D`, 0xCB 0xB2. -/
def execRes6D (s : State) : Result := resetBit 6 (.reg .d) s

/-- `RES 6,E`, 0xCB 0xB3. -/
def execRes6E (s : State) : Result := resetBit 6 (.reg .e) s

/-- `RES 6,H`, 0xCB 0xB4. -/
def execRes6H (s : State) : Result := resetBit 6 (.reg .h) s

/-- `RES 6,L`, 0xCB 0xB5. -/
def execRes6L (s : State) : Result := resetBit 6 (.reg .l) s

/-- `RES 6,A`, 0xCB 0xB7. -/
def execRes6A (s : State) : Result := resetBit 6 (.reg .a) s

/-- `RES 6,(HL)`, 0xCB 0xB6. -/
def execRes6AtHl (s : State) : Result := resetBit 6 .atHl s

/-- `RES 7,B`, 0xCB 0xB8. -/
def execRes7B (s : State) : Result := resetBit 7 (.reg .b) s

/-- `RES 7,C`, 0xCB 0xB9. -/
def execRes7C (s : State) : Result := resetBit 7 (.reg .c) s

/-- `RES 7,D`, 0xCB 0xBA. -/
def execRes7D (s : State) : Result := resetBit 7 (.reg .d) s

/-- `RES 7,E`, 0xCB 0xBB. -/
def execRes7E (s : State) : Result := resetBit 7 (.reg .e) s

/-- `RES 7,H`, 0xCB 0xBC. -/
def execRes7H (s : State) : Result := resetBit 7 (.reg .h) s

/-- `RES 7,L`, 0xCB 0xBD. -/
def execRes7L (s : State) : Result := resetBit 7 (.reg .l) s

/-- `RES 7,A`, 0xCB 0xBF. -/
def execRes7A (s : State) : Result := resetBit 7 (.reg .a) s

/-- `RES 7,(HL)`, 0xCB 0xBE. -/
def execRes7AtHl (s : State) : Result := resetBit 7 .atHl s

/-- `SET 0,B`, 0xCB 0xC0. -/
def execSet0B (s : State) : Result := setBit 0 (.reg .b) s

/-- `SET 0,C`, 0xCB 0xC1. -/
def execSet0C (s : State) : Result := setBit 0 (.reg .c) s

/-- `SET 0,D`, 0xCB 0xC2. -/
def execSet0D (s : State) : Result := setBit 0 (.reg .d) s

/-- `SET 0,E`, 0xCB 0xC3. -/
def execSet0E (s : State) : Result := setBit 0 (.reg .e) s

/-- `SET 0,H`, 0xCB 0xC4. -/
def execSet0H (s : State) : Result := setBit 0 (.reg .h) s

/-- `SET 0,L`, 0xCB 0xC5. -/
def execSet0L (s : State) : Result := setBit 0 (.reg .l) s

/-- `SET 0,A`, 0xCB 0xC7. -/
def execSet0A (s : State) : Result := setBit 0 (.reg .a) s

/-- `SET 0,(HL)`, 0xCB 0xC6. -/
def execSet0AtHl (s : State) : Result := setBit 0 .atHl s

/-- `SET 1,B`, 0xCB 0xC8. -/
def execSet1B (s : State) : Result := setBit 1 (.reg .b) s

/-- `SET 1,C`, 0xCB 0xC9. -/
def execSet1C (s : State) : Result := setBit 1 (.reg .c) s

/-- `SET 1,D`, 0xCB 0xCA. -/
def execSet1D (s : State) : Result := setBit 1 (.reg .d) s

/-- `SET 1,E`, 0xCB 0xCB. -/
def execSet1E (s : State) : Result := setBit 1 (.reg .e) s

/-- `SET 1,H`, 0xCB 0xCC. -/
def execSet1H (s : State) : Result := setBit 1 (.reg .h) s

/-- `SET 1,L`, 0xCB 0xCD. -/
def execSet1L (s : State) : Result := setBit 1 (.reg .l) s

/-- `SET 1,A`, 0xCB 0xCF. -/
def execSet1A (s : State) : Result := setBit 1 (.reg .a) s

/-- `SET 1,(HL)`, 0xCB 0xCE. -/
def execSet1AtHl (s : State) : Result := setBit 1 .atHl s

/-- `SET 2,B`, 0xCB 0xD0. -/
def execSet2B (s : State) : Result := setBit 2 (.reg .b) s

/-- `SET 2,C`, 0xCB 0xD1. -/
def execSet2C (s : State) : Result := setBit 2 (.reg .c) s

/-- `SET 2,D`, 0xCB 0xD2. -/
def execSet2D (s : State) : Result := setBit 2 (.reg .d) s

/-- `SET 2,E`, 0xCB 0xD3. -/
def execSet2E (s : State) : Result := setBit 2 (.reg .e) s

/-- `SET 2,H`, 0xCB 0xD4. -/
def execSet2H (s : State) : Result := setBit 2 (.reg .h) s

/-- `SET 2,L`, 0xCB 0xD5. -/
def execSet2L (s : State) : Result := setBit 2 (.reg .l) s

/-- `SET 2,A`, 0xCB 0xD7. -/
def execSet2A (s : State) : Result := setBit 2 (.reg .a) s

/-- `SET 2,(HL)`, 0xCB 0xD6. -/
def execSet2AtHl (s : State) : Result := setBit 2 .atHl s

/-- `SET 3,B`, 0xCB 0xD8. -/
def execSet3B (s : State) : Result := setBit 3 (.reg .b) s

/-- `SET 3,C`, 0xCB 0xD9. -/
def execSet3C (s : State) : Result := setBit 3 (.reg .c) s

/-- `SET 3,D`, 0xCB 0xDA. -/
def execSet3D (s : State) : Result := setBit 3 (.reg .d) s

/-- `SET 3,E`, 0xCB 0xDB. -/
def execSet3E (s : State) : Result := setBit 3 (.reg .e) s

/-- `SET 3,H`, 0xCB 0xDC. -/
def execSet3H (s : State) : Result := setBit 3 (.reg .h) s

/-- `SET 3,L`, 0xCB 0xDD. -/
def execSet3L (s : State) : Result := setBit 3 (.reg .l) s

/-- `SET 3,A`, 0xCB 0xDF. -/
def execSet3A (s : State) : Result := setBit 3 (.reg .a) s

/-- `SET 3,(HL)`, 0xCB 0xDE. -/
def execSet3AtHl (s : State) : Result := setBit 3 .atHl s

/-- `SET 4,B`, 0xCB 0xE0. -/
def execSet4B (s : State) : Result := setBit 4 (.reg .b) s

/-- `SET 4,C`, 0xCB 0xE1. -/
def execSet4C (s : State) : Result := setBit 4 (.reg .c) s

/-- `SET 4,D`, 0xCB 0xE2. -/
def execSet4D (s : State) : Result := setBit 4 (.reg .d) s

/-- `SET 4,E`, 0xCB 0xE3. -/
def execSet4E (s : State) : Result := setBit 4 (.reg .e) s

/-- `SET 4,H`, 0xCB 0xE4. -/
def execSet4H (s : State) : Result := setBit 4 (.reg .h) s

/-- `SET 4,L`, 0xCB 0xE5. -/
def execSet4L (s : State) : Result := setBit 4 (.reg .l) s

/-- `SET 4,A`, 0xCB 0xE7. -/
def execSet4A (s : State) : Result := setBit 4 (.reg .a) s

/-- `SET 4,(HL)`, 0xCB 0xE6. -/
def execSet4AtHl (s : State) : Result := setBit 4 .atHl s

/-- `SET 5,B`, 0xCB 0xE8. -/
def execSet5B (s : State) : Result := setBit 5 (.reg .b) s

/-- `SET 5,C`, 0xCB 0xE9. -/
def execSet5C (s : State) : Result := setBit 5 (.reg .c) s

/-- `SET 5,D`, 0xCB 0xEA. -/
def execSet5D (s : State) : Result := setBit 5 (.reg .d) s

/-- `SET 5,E`, 0xCB 0xEB. -/
def execSet5E (s : State) : Result := setBit 5 (.reg .e) s

/-- `SET 5,H`, 0xCB 0xEC. -/
def execSet5H (s : State) : Result := setBit 5 (.reg .h) s

/-- `SET 5,L`, 0xCB 0xED. -/
def execSet5L (s : State) : Result := setBit 5 (.reg .l) s

/-- `SET 5,A`, 0xCB 0xEF. -/
def execSet5A (s : State) : Result := setBit 5 (.reg .a) s

/-- `SET 5,(HL)`, 0xCB 0xEE. -/
def execSet5AtHl (s : State) : Result := setBit 5 .atHl s

/-- `SET 6,B`, 0xCB 0xF0. -/
def execSet6B (s : State) : Result := setBit 6 (.reg .b) s

/-- `SET 6,C`, 0xCB 0xF1. -/
def execSet6C (s : State) : Result := setBit 6 (.reg .c) s

/-- `SET 6,D`, 0xCB 0xF2. -/
def execSet6D (s : State) : Result := setBit 6 (.reg .d) s

/-- `SET 6,E`, 0xCB 0xF3. -/
def execSet6E (s : State) : Result := setBit 6 (.reg .e) s

/-- `SET 6,H`, 0xCB 0xF4. -/
def execSet6H (s : State) : Result := setBit 6 (.reg .h) s

/-- `SET 6,L`, 0xCB 0xF5. -/
def execSet6L (s : State) : Result := setBit 6 (.reg .l) s

/-- `SET 6,A`, 0xCB 0xF7. -/
def execSet6A (s : State) : Result := setBit 6 (.reg .a) s

/-- `SET 6,(HL)`, 0xCB 0xF6. -/
def execSet6AtHl (s : State) : Result := setBit 6 .atHl s

/-- `SET 7,B`, 0xCB 0xF8. -/
def execSet7B (s : State) : Result := setBit 7 (.reg .b) s

/-- `SET 7,C`, 0xCB 0xF9. -/
def execSet7C (s : State) : Result := setBit 7 (.reg .c) s

/-- `SET 7,D`, 0xCB 0xFA. -/
def execSet7D (s : State) : Result := setBit 7 (.reg .d) s

/-- `SET 7,E`, 0xCB 0xFB. -/
def execSet7E (s : State) : Result := setBit 7 (.reg .e) s

/-- `SET 7,H`, 0xCB 0xFC. -/
def execSet7H (s : State) : Result := setBit 7 (.reg .h) s

/-- `SET 7,L`, 0xCB 0xFD. -/
def execSet7L (s : State) : Result := setBit 7 (.reg .l) s

/-- `SET 7,A`, 0xCB 0xFF. -/
def execSet7A (s : State) : Result := setBit 7 (.reg .a) s

/-- `SET 7,(HL)`, 0xCB 0xFE. -/
def execSet7AtHl (s : State) : Result := setBit 7 .atHl s

end Sys2Proof.Machine
end

