-- ==== Sys2Proof/Machine/Control.lean ====
section
/-! DEFINITION. Jumps, calls, returns and RST (42_control.md R220 to R230). -/

namespace Sys2Proof.Machine

/-- `JP nn` and `JP HL` (R220, R222). -/
def jumpTo (target : Word) (s : State) : Result := .next (s.jump target)

/-- `JP cc,nn` (R221). -/
def jumpIf (cc : Cond) (nn : Word) (s : State) : Result :=
  if condHolds cc s.f then .next (s.jump nn) else .next (s.advance 3)

/-- `JR e` (R223). -/
def jumpRelative (e : Int) (s : State) : Result := .next (s.jump (s.relativeTarget e))

/-- `JR cc,e` (R224). -/
def jumpRelativeIf (cc : Cond) (e : Int) (s : State) : Result :=
  if condHolds cc s.f then .next (s.jump (s.relativeTarget e)) else .next (s.advance 2)

/-- The address after the instruction pushed, and a jump: `CALL nn` (R225) with length 3, `RST t` (R230) with length 1. -/
def callTo (target : Word) (length : Nat) (s : State) : Result :=
  .next ((s.push16 (s.pcAfter length)).jump target)

/-- `CALL cc,nn` (R226). -/
def callIf (cc : Cond) (nn : Word) (s : State) : Result :=
  if condHolds cc s.f then callTo nn 3 s else .next (s.advance 3)

/-- `RET` (R227). -/
def returnTo (s : State) : Result := .next (s.drop16.jump s.top16)

/-- `RET cc` (R228). -/
def returnIf (cc : Cond) (s : State) : Result := if condHolds cc s.f then returnTo s else .next (s.advance 1)

/-- `RETI` (R229): as RET, and IME set at once. -/
def returnFromInterrupt (s : State) : Result := .next ((s.drop16.jump s.top16).enableInterrupts)

/-! ## The instructions -/

/-- `JP nn`, 0xC3. -/
def execJpNn (nn : Word) (s : State) : Result := jumpTo nn s

/-- `JP HL`, 0xE9. -/
def execJpHl (s : State) : Result := jumpTo s.hl s

/-- `JP NZ,nn`, 0xC2. -/
def execJpNzNn (nn : Word) (s : State) : Result := jumpIf .nz nn s

/-- `JP Z,nn`, 0xCA. -/
def execJpZNn (nn : Word) (s : State) : Result := jumpIf .z nn s

/-- `JP NC,nn`, 0xD2. -/
def execJpNcNn (nn : Word) (s : State) : Result := jumpIf .nc nn s

/-- `JP C,nn`, 0xDA. -/
def execJpCNn (nn : Word) (s : State) : Result := jumpIf .c nn s

/-- `JR e`, 0x18. -/
def execJrE (e : Int) (s : State) : Result := jumpRelative e s

/-- `JR NZ,e`, 0x20. -/
def execJrNzE (e : Int) (s : State) : Result := jumpRelativeIf .nz e s

/-- `JR Z,e`, 0x28. -/
def execJrZE (e : Int) (s : State) : Result := jumpRelativeIf .z e s

/-- `JR NC,e`, 0x30. -/
def execJrNcE (e : Int) (s : State) : Result := jumpRelativeIf .nc e s

/-- `JR C,e`, 0x38. -/
def execJrCE (e : Int) (s : State) : Result := jumpRelativeIf .c e s

/-- `CALL nn`, 0xCD. -/
def execCallNn (nn : Word) (s : State) : Result := callTo nn 3 s

/-- `CALL NZ,nn`, 0xC4. -/
def execCallNzNn (nn : Word) (s : State) : Result := callIf .nz nn s

/-- `CALL Z,nn`, 0xCC. -/
def execCallZNn (nn : Word) (s : State) : Result := callIf .z nn s

/-- `CALL NC,nn`, 0xD4. -/
def execCallNcNn (nn : Word) (s : State) : Result := callIf .nc nn s

/-- `CALL C,nn`, 0xDC. -/
def execCallCNn (nn : Word) (s : State) : Result := callIf .c nn s

/-- `RET`, 0xC9. -/
def execRet (s : State) : Result := returnTo s

/-- `RET NZ`, 0xC0. -/
def execRetNz (s : State) : Result := returnIf .nz s

/-- `RET Z`, 0xC8. -/
def execRetZ (s : State) : Result := returnIf .z s

/-- `RET NC`, 0xD0. -/
def execRetNc (s : State) : Result := returnIf .nc s

/-- `RET C`, 0xD8. -/
def execRetC (s : State) : Result := returnIf .c s

/-- `RETI`, 0xD9. -/
def execReti (s : State) : Result := returnFromInterrupt s

/-- `RST 00h`, 0xC7. -/
def execRst00 (s : State) : Result := callTo (rstTarget 0) 1 s

/-- `RST 08h`, 0xCF. -/
def execRst08 (s : State) : Result := callTo (rstTarget 1) 1 s

/-- `RST 10h`, 0xD7. -/
def execRst10 (s : State) : Result := callTo (rstTarget 2) 1 s

/-- `RST 18h`, 0xDF. -/
def execRst18 (s : State) : Result := callTo (rstTarget 3) 1 s

/-- `RST 20h`, 0xE7. -/
def execRst20 (s : State) : Result := callTo (rstTarget 4) 1 s

/-- `RST 28h`, 0xEF. -/
def execRst28 (s : State) : Result := callTo (rstTarget 5) 1 s

/-- `RST 30h`, 0xF7. -/
def execRst30 (s : State) : Result := callTo (rstTarget 6) 1 s

/-- `RST 38h`, 0xFF. -/
def execRst38 (s : State) : Result := callTo (rstTarget 7) 1 s

end Sys2Proof.Machine
end

