-- ==== Sys2Proof/Machine/Loads.lean ====
section
/-! DEFINITION. The load and move instructions (41_loads.md R170 to R192). -/

namespace Sys2Proof.Machine

/-- `LD r,r'` (R170). -/
def ldRegReg (r r' : Reg8) (s : State) : Result := .next ((s.setReg8 r (s.reg8 r')).advance 1)

/-- `LD r,n` (R171). -/
def ldRegImm (r : Reg8) (n : Byte) (s : State) : Result := .next ((s.setReg8 r n).advance 2)

/-- A byte of memory to a register: `LD r,(HL)` (R172), `LD A,(BC)`, `LD A,(DE)`, `LD A,(nn)` (R175, R176, R179), `LDH A,(n)`, `LDH A,(C)` (R181, R183). -/
def ldRegMem (r : Reg8) (address : Word) (length : Nat) (s : State) : Result :=
  .next ((s.setReg8 r (s.read address)).advance length)

/-- A byte to memory: `LD (HL),r` (R173), `LD (HL),n` (R174), `LD (BC),A`, `LD (DE),A`, `LD (nn),A` (R177, R178, R180), `LDH (n),A`, `LDH (C),A` (R182, R184). -/
def ldMem (address : Word) (v : Byte) (length : Nat) (s : State) : Result := .next ((s.write address v).advance length)

/-- `LD A,(HL+)` and `LD A,(HL-)`: the byte at the old HL, then HL moved by `delta` (R185, R186). -/
def ldAHlMove (delta : Word) (s : State) : Result :=
  .next (((s.setReg8 .a (s.read s.hl)).setReg16 .hl (s.hl + delta)).advance 1)

/-- `LD (HL+),A` and `LD (HL-),A` (R187, R188). -/
def ldHlMoveA (delta : Word) (s : State) : Result :=
  .next (((s.write s.hl s.a).setReg16 .hl (s.hl + delta)).advance 1)

/-- `LD rr,nn` (R189). -/
def ldPairImm (rr : Reg16) (nn : Word) (s : State) : Result := .next ((s.setReg16 rr nn).advance 3)

/-- `LD (nn),SP` (R190). -/
def ldMemSp (nn : Word) (s : State) : Result := .next ((s.write16 nn s.sp).advance 3)

/-- `LD SP,HL` (R191). -/
def ldSpFromHl (s : State) : Result := .next ((s.setReg16 .sp s.hl).advance 1)

/-- `LD HL,SP+e` (R192), with the value and flags of AddSpE (R278). -/
def ldHlFromSp (n : Byte) (s : State) : Result :=
  .next (((s.setReg16 .hl (addSpEValue s.sp n)).setFlags false false (addSpEHalf s.sp n) (addSpECarry s.sp n)).advance 2)

/-! ## The instructions -/

/-- `LD B,B`, 0x40. -/
def execLdBB (s : State) : Result := ldRegReg .b .b s

/-- `LD B,C`, 0x41. -/
def execLdBC (s : State) : Result := ldRegReg .b .c s

/-- `LD B,D`, 0x42. -/
def execLdBD (s : State) : Result := ldRegReg .b .d s

/-- `LD B,E`, 0x43. -/
def execLdBE (s : State) : Result := ldRegReg .b .e s

/-- `LD B,H`, 0x44. -/
def execLdBH (s : State) : Result := ldRegReg .b .h s

/-- `LD B,L`, 0x45. -/
def execLdBL (s : State) : Result := ldRegReg .b .l s

/-- `LD B,A`, 0x47. -/
def execLdBA (s : State) : Result := ldRegReg .b .a s

/-- `LD C,B`, 0x48. -/
def execLdCB (s : State) : Result := ldRegReg .c .b s

/-- `LD C,C`, 0x49. -/
def execLdCC (s : State) : Result := ldRegReg .c .c s

/-- `LD C,D`, 0x4A. -/
def execLdCD (s : State) : Result := ldRegReg .c .d s

/-- `LD C,E`, 0x4B. -/
def execLdCE (s : State) : Result := ldRegReg .c .e s

/-- `LD C,H`, 0x4C. -/
def execLdCH (s : State) : Result := ldRegReg .c .h s

/-- `LD C,L`, 0x4D. -/
def execLdCL (s : State) : Result := ldRegReg .c .l s

/-- `LD C,A`, 0x4F. -/
def execLdCA (s : State) : Result := ldRegReg .c .a s

/-- `LD D,B`, 0x50. -/
def execLdDB (s : State) : Result := ldRegReg .d .b s

/-- `LD D,C`, 0x51. -/
def execLdDC (s : State) : Result := ldRegReg .d .c s

/-- `LD D,D`, 0x52. -/
def execLdDD (s : State) : Result := ldRegReg .d .d s

/-- `LD D,E`, 0x53. -/
def execLdDE (s : State) : Result := ldRegReg .d .e s

/-- `LD D,H`, 0x54. -/
def execLdDH (s : State) : Result := ldRegReg .d .h s

/-- `LD D,L`, 0x55. -/
def execLdDL (s : State) : Result := ldRegReg .d .l s

/-- `LD D,A`, 0x57. -/
def execLdDA (s : State) : Result := ldRegReg .d .a s

/-- `LD E,B`, 0x58. -/
def execLdEB (s : State) : Result := ldRegReg .e .b s

/-- `LD E,C`, 0x59. -/
def execLdEC (s : State) : Result := ldRegReg .e .c s

/-- `LD E,D`, 0x5A. -/
def execLdED (s : State) : Result := ldRegReg .e .d s

/-- `LD E,E`, 0x5B. -/
def execLdEE (s : State) : Result := ldRegReg .e .e s

/-- `LD E,H`, 0x5C. -/
def execLdEH (s : State) : Result := ldRegReg .e .h s

/-- `LD E,L`, 0x5D. -/
def execLdEL (s : State) : Result := ldRegReg .e .l s

/-- `LD E,A`, 0x5F. -/
def execLdEA (s : State) : Result := ldRegReg .e .a s

/-- `LD H,B`, 0x60. -/
def execLdHB (s : State) : Result := ldRegReg .h .b s

/-- `LD H,C`, 0x61. -/
def execLdHC (s : State) : Result := ldRegReg .h .c s

/-- `LD H,D`, 0x62. -/
def execLdHD (s : State) : Result := ldRegReg .h .d s

/-- `LD H,E`, 0x63. -/
def execLdHE (s : State) : Result := ldRegReg .h .e s

/-- `LD H,H`, 0x64. -/
def execLdHH (s : State) : Result := ldRegReg .h .h s

/-- `LD H,L`, 0x65. -/
def execLdHL (s : State) : Result := ldRegReg .h .l s

/-- `LD H,A`, 0x67. -/
def execLdHA (s : State) : Result := ldRegReg .h .a s

/-- `LD L,B`, 0x68. -/
def execLdLB (s : State) : Result := ldRegReg .l .b s

/-- `LD L,C`, 0x69. -/
def execLdLC (s : State) : Result := ldRegReg .l .c s

/-- `LD L,D`, 0x6A. -/
def execLdLD (s : State) : Result := ldRegReg .l .d s

/-- `LD L,E`, 0x6B. -/
def execLdLE (s : State) : Result := ldRegReg .l .e s

/-- `LD L,H`, 0x6C. -/
def execLdLH (s : State) : Result := ldRegReg .l .h s

/-- `LD L,L`, 0x6D. -/
def execLdLL (s : State) : Result := ldRegReg .l .l s

/-- `LD L,A`, 0x6F. -/
def execLdLA (s : State) : Result := ldRegReg .l .a s

/-- `LD A,B`, 0x78. -/
def execLdAB (s : State) : Result := ldRegReg .a .b s

/-- `LD A,C`, 0x79. -/
def execLdAC (s : State) : Result := ldRegReg .a .c s

/-- `LD A,D`, 0x7A. -/
def execLdAD (s : State) : Result := ldRegReg .a .d s

/-- `LD A,E`, 0x7B. -/
def execLdAE (s : State) : Result := ldRegReg .a .e s

/-- `LD A,H`, 0x7C. -/
def execLdAH (s : State) : Result := ldRegReg .a .h s

/-- `LD A,L`, 0x7D. -/
def execLdAL (s : State) : Result := ldRegReg .a .l s

/-- `LD A,A`, 0x7F. -/
def execLdAA (s : State) : Result := ldRegReg .a .a s

/-- `LD B,n`, 0x06. -/
def execLdBN (n : Byte) (s : State) : Result := ldRegImm .b n s

/-- `LD C,n`, 0x0E. -/
def execLdCN (n : Byte) (s : State) : Result := ldRegImm .c n s

/-- `LD D,n`, 0x16. -/
def execLdDN (n : Byte) (s : State) : Result := ldRegImm .d n s

/-- `LD E,n`, 0x1E. -/
def execLdEN (n : Byte) (s : State) : Result := ldRegImm .e n s

/-- `LD H,n`, 0x26. -/
def execLdHN (n : Byte) (s : State) : Result := ldRegImm .h n s

/-- `LD L,n`, 0x2E. -/
def execLdLN (n : Byte) (s : State) : Result := ldRegImm .l n s

/-- `LD A,n`, 0x3E. -/
def execLdAN (n : Byte) (s : State) : Result := ldRegImm .a n s

/-- `LD B,(HL)`, 0x46. -/
def execLdBAtHl (s : State) : Result := ldRegMem .b s.hl 1 s

/-- `LD C,(HL)`, 0x4E. -/
def execLdCAtHl (s : State) : Result := ldRegMem .c s.hl 1 s

/-- `LD D,(HL)`, 0x56. -/
def execLdDAtHl (s : State) : Result := ldRegMem .d s.hl 1 s

/-- `LD E,(HL)`, 0x5E. -/
def execLdEAtHl (s : State) : Result := ldRegMem .e s.hl 1 s

/-- `LD H,(HL)`, 0x66. -/
def execLdHAtHl (s : State) : Result := ldRegMem .h s.hl 1 s

/-- `LD L,(HL)`, 0x6E. -/
def execLdLAtHl (s : State) : Result := ldRegMem .l s.hl 1 s

/-- `LD A,(HL)`, 0x7E. -/
def execLdAAtHl (s : State) : Result := ldRegMem .a s.hl 1 s

/-- `LD (HL),B`, 0x70. -/
def execLdAtHlB (s : State) : Result := ldMem s.hl (s.reg8 .b) 1 s

/-- `LD (HL),C`, 0x71. -/
def execLdAtHlC (s : State) : Result := ldMem s.hl (s.reg8 .c) 1 s

/-- `LD (HL),D`, 0x72. -/
def execLdAtHlD (s : State) : Result := ldMem s.hl (s.reg8 .d) 1 s

/-- `LD (HL),E`, 0x73. -/
def execLdAtHlE (s : State) : Result := ldMem s.hl (s.reg8 .e) 1 s

/-- `LD (HL),H`, 0x74. -/
def execLdAtHlH (s : State) : Result := ldMem s.hl (s.reg8 .h) 1 s

/-- `LD (HL),L`, 0x75. -/
def execLdAtHlL (s : State) : Result := ldMem s.hl (s.reg8 .l) 1 s

/-- `LD (HL),A`, 0x77. -/
def execLdAtHlA (s : State) : Result := ldMem s.hl (s.reg8 .a) 1 s

/-- `LD (HL),n`, 0x36. -/
def execLdAtHlN (n : Byte) (s : State) : Result := ldMem s.hl n 2 s

/-- `LD A,(BC)`, 0x0A. -/
def execLdAAtBc (s : State) : Result := ldRegMem .a (s.reg16 .bc) 1 s

/-- `LD A,(DE)`, 0x1A. -/
def execLdAAtDe (s : State) : Result := ldRegMem .a (s.reg16 .de) 1 s

/-- `LD (BC),A`, 0x02. -/
def execLdAtBcA (s : State) : Result := ldMem (s.reg16 .bc) s.a 1 s

/-- `LD (DE),A`, 0x12. -/
def execLdAtDeA (s : State) : Result := ldMem (s.reg16 .de) s.a 1 s

/-- `LD A,(nn)`, 0xFA. -/
def execLdAAtNn (nn : Word) (s : State) : Result := ldRegMem .a nn 3 s

/-- `LD (nn),A`, 0xEA. -/
def execLdAtNnA (nn : Word) (s : State) : Result := ldMem nn s.a 3 s

/-- `LDH A,(n)`, 0xF0. -/
def execLdhAAtN (n : Byte) (s : State) : Result := ldRegMem .a (ioAddress n) 2 s

/-- `LDH (n),A`, 0xE0. -/
def execLdhAtNA (n : Byte) (s : State) : Result := ldMem (ioAddress n) s.a 2 s

/-- `LDH A,(C)`, 0xF2. -/
def execLdhAAtC (s : State) : Result := ldRegMem .a (ioAddress s.c) 1 s

/-- `LDH (C),A`, 0xE2. -/
def execLdhAtCA (s : State) : Result := ldMem (ioAddress s.c) s.a 1 s

/-- `LD A,(HL+)`, 0x2A. -/
def execLdAAtHlInc (s : State) : Result := ldAHlMove 1 s

/-- `LD A,(HL-)`, 0x3A. -/
def execLdAAtHlDec (s : State) : Result := ldAHlMove (-1) s

/-- `LD (HL+),A`, 0x22. -/
def execLdAtHlIncA (s : State) : Result := ldHlMoveA 1 s

/-- `LD (HL-),A`, 0x32. -/
def execLdAtHlDecA (s : State) : Result := ldHlMoveA (-1) s

/-- `LD BC,nn`, 0x01. -/
def execLdBcNn (nn : Word) (s : State) : Result := ldPairImm .bc nn s

/-- `LD DE,nn`, 0x11. -/
def execLdDeNn (nn : Word) (s : State) : Result := ldPairImm .de nn s

/-- `LD HL,nn`, 0x21. -/
def execLdHlNn (nn : Word) (s : State) : Result := ldPairImm .hl nn s

/-- `LD SP,nn`, 0x31. -/
def execLdSpNn (nn : Word) (s : State) : Result := ldPairImm .sp nn s

/-- `LD (nn),SP`, 0x08. -/
def execLdAtNnSp (nn : Word) (s : State) : Result := ldMemSp nn s

/-- `LD SP,HL`, 0xF9. -/
def execLdSpHl (s : State) : Result := ldSpFromHl s

/-- `LD HL,SP+e`, 0xF8. -/
def execLdHlSpE (e : Int) (s : State) : Result := ldHlFromSp (dispByte e) s

end Sys2Proof.Machine
end

