-- ==== Sys2Proof/Machine/Logic.lean ====
section
/-! DEFINITION. AND, XOR and OR (44_logic_bit.md R300 to R309) over the shared `aluA`. -/

namespace Sys2Proof.Machine

/-- `AND A,B`, 0xA0. -/
def execAndAB (s : State) : Result := aluA .and (s.reg8 .b) 1 s

/-- `AND A,C`, 0xA1. -/
def execAndAC (s : State) : Result := aluA .and (s.reg8 .c) 1 s

/-- `AND A,D`, 0xA2. -/
def execAndAD (s : State) : Result := aluA .and (s.reg8 .d) 1 s

/-- `AND A,E`, 0xA3. -/
def execAndAE (s : State) : Result := aluA .and (s.reg8 .e) 1 s

/-- `AND A,H`, 0xA4. -/
def execAndAH (s : State) : Result := aluA .and (s.reg8 .h) 1 s

/-- `AND A,L`, 0xA5. -/
def execAndAL (s : State) : Result := aluA .and (s.reg8 .l) 1 s

/-- `AND A,A`, 0xA7. -/
def execAndAA (s : State) : Result := aluA .and (s.reg8 .a) 1 s

/-- `AND A,(HL)`, 0xA6. -/
def execAndAAtHl (s : State) : Result := aluA .and (s.read s.hl) 1 s

/-- `AND A,n`, 0xE6. -/
def execAndAN (n : Byte) (s : State) : Result := aluA .and n 2 s

/-- `XOR A,B`, 0xA8. -/
def execXorAB (s : State) : Result := aluA .xor (s.reg8 .b) 1 s

/-- `XOR A,C`, 0xA9. -/
def execXorAC (s : State) : Result := aluA .xor (s.reg8 .c) 1 s

/-- `XOR A,D`, 0xAA. -/
def execXorAD (s : State) : Result := aluA .xor (s.reg8 .d) 1 s

/-- `XOR A,E`, 0xAB. -/
def execXorAE (s : State) : Result := aluA .xor (s.reg8 .e) 1 s

/-- `XOR A,H`, 0xAC. -/
def execXorAH (s : State) : Result := aluA .xor (s.reg8 .h) 1 s

/-- `XOR A,L`, 0xAD. -/
def execXorAL (s : State) : Result := aluA .xor (s.reg8 .l) 1 s

/-- `XOR A,A`, 0xAF. -/
def execXorAA (s : State) : Result := aluA .xor (s.reg8 .a) 1 s

/-- `XOR A,(HL)`, 0xAE. -/
def execXorAAtHl (s : State) : Result := aluA .xor (s.read s.hl) 1 s

/-- `XOR A,n`, 0xEE. -/
def execXorAN (n : Byte) (s : State) : Result := aluA .xor n 2 s

/-- `OR A,B`, 0xB0. -/
def execOrAB (s : State) : Result := aluA .or (s.reg8 .b) 1 s

/-- `OR A,C`, 0xB1. -/
def execOrAC (s : State) : Result := aluA .or (s.reg8 .c) 1 s

/-- `OR A,D`, 0xB2. -/
def execOrAD (s : State) : Result := aluA .or (s.reg8 .d) 1 s

/-- `OR A,E`, 0xB3. -/
def execOrAE (s : State) : Result := aluA .or (s.reg8 .e) 1 s

/-- `OR A,H`, 0xB4. -/
def execOrAH (s : State) : Result := aluA .or (s.reg8 .h) 1 s

/-- `OR A,L`, 0xB5. -/
def execOrAL (s : State) : Result := aluA .or (s.reg8 .l) 1 s

/-- `OR A,A`, 0xB7. -/
def execOrAA (s : State) : Result := aluA .or (s.reg8 .a) 1 s

/-- `OR A,(HL)`, 0xB6. -/
def execOrAAtHl (s : State) : Result := aluA .or (s.read s.hl) 1 s

/-- `OR A,n`, 0xF6. -/
def execOrAN (n : Byte) (s : State) : Result := aluA .or n 2 s

end Sys2Proof.Machine
end

