-- ==== Sys2Proof/Machine/Rotate.lean ====
section
/-! DEFINITION. The accumulator rotates (44_logic_bit.md R311 to R314) and the 0xCB rotates, shifts and SWAP (R310, R315 to R330). -/

namespace Sys2Proof.Machine

/-- RLCA, RRCA, RLA, RRA (R311 to R314): Shift8 on A, Z by ROTATE_A_Z. -/
def rotateA (op : RotOp) (s : State) : Result :=
  let res := shiftResult op s.a (flagC s.f)
  .next (((s.setReg8 .a res).setFlags (rotateAZero s.params res) false false (shiftCarry op s.a)).advance 1)

/-- The 0xCB rotates, shifts and SWAP on a register or (HL) (R310, R315 to R330). -/
def rotateOperand (op : RotOp) (o : Operand8) (s : State) : Result :=
  let v := s.operand o
  let res := shiftResult op v (flagC s.f)
  .next (((s.setOperand o res).setFlags (res == 0) false false (shiftCarry op v)).advance 2)

/-! ## The instructions -/

/-- `RLCA`, 0x07. -/
def execRlca (s : State) : Result := rotateA .rlc s

/-- `RRCA`, 0x0F. -/
def execRrca (s : State) : Result := rotateA .rrc s

/-- `RLA`, 0x17. -/
def execRla (s : State) : Result := rotateA .rl s

/-- `RRA`, 0x1F. -/
def execRra (s : State) : Result := rotateA .rr s

/-- `RLC B`, 0xCB 0x00. -/
def execRlcB (s : State) : Result := rotateOperand .rlc (.reg .b) s

/-- `RLC C`, 0xCB 0x01. -/
def execRlcC (s : State) : Result := rotateOperand .rlc (.reg .c) s

/-- `RLC D`, 0xCB 0x02. -/
def execRlcD (s : State) : Result := rotateOperand .rlc (.reg .d) s

/-- `RLC E`, 0xCB 0x03. -/
def execRlcE (s : State) : Result := rotateOperand .rlc (.reg .e) s

/-- `RLC H`, 0xCB 0x04. -/
def execRlcH (s : State) : Result := rotateOperand .rlc (.reg .h) s

/-- `RLC L`, 0xCB 0x05. -/
def execRlcL (s : State) : Result := rotateOperand .rlc (.reg .l) s

/-- `RLC A`, 0xCB 0x07. -/
def execRlcA (s : State) : Result := rotateOperand .rlc (.reg .a) s

/-- `RLC (HL)`, 0xCB 0x06. -/
def execRlcAtHl (s : State) : Result := rotateOperand .rlc .atHl s

/-- `RRC B`, 0xCB 0x08. -/
def execRrcB (s : State) : Result := rotateOperand .rrc (.reg .b) s

/-- `RRC C`, 0xCB 0x09. -/
def execRrcC (s : State) : Result := rotateOperand .rrc (.reg .c) s

/-- `RRC D`, 0xCB 0x0A. -/
def execRrcD (s : State) : Result := rotateOperand .rrc (.reg .d) s

/-- `RRC E`, 0xCB 0x0B. -/
def execRrcE (s : State) : Result := rotateOperand .rrc (.reg .e) s

/-- `RRC H`, 0xCB 0x0C. -/
def execRrcH (s : State) : Result := rotateOperand .rrc (.reg .h) s

/-- `RRC L`, 0xCB 0x0D. -/
def execRrcL (s : State) : Result := rotateOperand .rrc (.reg .l) s

/-- `RRC A`, 0xCB 0x0F. -/
def execRrcA (s : State) : Result := rotateOperand .rrc (.reg .a) s

/-- `RRC (HL)`, 0xCB 0x0E. -/
def execRrcAtHl (s : State) : Result := rotateOperand .rrc .atHl s

/-- `RL B`, 0xCB 0x10. -/
def execRlB (s : State) : Result := rotateOperand .rl (.reg .b) s

/-- `RL C`, 0xCB 0x11. -/
def execRlC (s : State) : Result := rotateOperand .rl (.reg .c) s

/-- `RL D`, 0xCB 0x12. -/
def execRlD (s : State) : Result := rotateOperand .rl (.reg .d) s

/-- `RL E`, 0xCB 0x13. -/
def execRlE (s : State) : Result := rotateOperand .rl (.reg .e) s

/-- `RL H`, 0xCB 0x14. -/
def execRlH (s : State) : Result := rotateOperand .rl (.reg .h) s

/-- `RL L`, 0xCB 0x15. -/
def execRlL (s : State) : Result := rotateOperand .rl (.reg .l) s

/-- `RL A`, 0xCB 0x17. -/
def execRlA (s : State) : Result := rotateOperand .rl (.reg .a) s

/-- `RL (HL)`, 0xCB 0x16. -/
def execRlAtHl (s : State) : Result := rotateOperand .rl .atHl s

/-- `RR B`, 0xCB 0x18. -/
def execRrB (s : State) : Result := rotateOperand .rr (.reg .b) s

/-- `RR C`, 0xCB 0x19. -/
def execRrC (s : State) : Result := rotateOperand .rr (.reg .c) s

/-- `RR D`, 0xCB 0x1A. -/
def execRrD (s : State) : Result := rotateOperand .rr (.reg .d) s

/-- `RR E`, 0xCB 0x1B. -/
def execRrE (s : State) : Result := rotateOperand .rr (.reg .e) s

/-- `RR H`, 0xCB 0x1C. -/
def execRrH (s : State) : Result := rotateOperand .rr (.reg .h) s

/-- `RR L`, 0xCB 0x1D. -/
def execRrL (s : State) : Result := rotateOperand .rr (.reg .l) s

/-- `RR A`, 0xCB 0x1F. -/
def execRrA (s : State) : Result := rotateOperand .rr (.reg .a) s

/-- `RR (HL)`, 0xCB 0x1E. -/
def execRrAtHl (s : State) : Result := rotateOperand .rr .atHl s

/-- `SLA B`, 0xCB 0x20. -/
def execSlaB (s : State) : Result := rotateOperand .sla (.reg .b) s

/-- `SLA C`, 0xCB 0x21. -/
def execSlaC (s : State) : Result := rotateOperand .sla (.reg .c) s

/-- `SLA D`, 0xCB 0x22. -/
def execSlaD (s : State) : Result := rotateOperand .sla (.reg .d) s

/-- `SLA E`, 0xCB 0x23. -/
def execSlaE (s : State) : Result := rotateOperand .sla (.reg .e) s

/-- `SLA H`, 0xCB 0x24. -/
def execSlaH (s : State) : Result := rotateOperand .sla (.reg .h) s

/-- `SLA L`, 0xCB 0x25. -/
def execSlaL (s : State) : Result := rotateOperand .sla (.reg .l) s

/-- `SLA A`, 0xCB 0x27. -/
def execSlaA (s : State) : Result := rotateOperand .sla (.reg .a) s

/-- `SLA (HL)`, 0xCB 0x26. -/
def execSlaAtHl (s : State) : Result := rotateOperand .sla .atHl s

/-- `SRA B`, 0xCB 0x28. -/
def execSraB (s : State) : Result := rotateOperand .sra (.reg .b) s

/-- `SRA C`, 0xCB 0x29. -/
def execSraC (s : State) : Result := rotateOperand .sra (.reg .c) s

/-- `SRA D`, 0xCB 0x2A. -/
def execSraD (s : State) : Result := rotateOperand .sra (.reg .d) s

/-- `SRA E`, 0xCB 0x2B. -/
def execSraE (s : State) : Result := rotateOperand .sra (.reg .e) s

/-- `SRA H`, 0xCB 0x2C. -/
def execSraH (s : State) : Result := rotateOperand .sra (.reg .h) s

/-- `SRA L`, 0xCB 0x2D. -/
def execSraL (s : State) : Result := rotateOperand .sra (.reg .l) s

/-- `SRA A`, 0xCB 0x2F. -/
def execSraA (s : State) : Result := rotateOperand .sra (.reg .a) s

/-- `SRA (HL)`, 0xCB 0x2E. -/
def execSraAtHl (s : State) : Result := rotateOperand .sra .atHl s

/-- `SWAP B`, 0xCB 0x30. -/
def execSwapB (s : State) : Result := rotateOperand .swap (.reg .b) s

/-- `SWAP C`, 0xCB 0x31. -/
def execSwapC (s : State) : Result := rotateOperand .swap (.reg .c) s

/-- `SWAP D`, 0xCB 0x32. -/
def execSwapD (s : State) : Result := rotateOperand .swap (.reg .d) s

/-- `SWAP E`, 0xCB 0x33. -/
def execSwapE (s : State) : Result := rotateOperand .swap (.reg .e) s

/-- `SWAP H`, 0xCB 0x34. -/
def execSwapH (s : State) : Result := rotateOperand .swap (.reg .h) s

/-- `SWAP L`, 0xCB 0x35. -/
def execSwapL (s : State) : Result := rotateOperand .swap (.reg .l) s

/-- `SWAP A`, 0xCB 0x37. -/
def execSwapA (s : State) : Result := rotateOperand .swap (.reg .a) s

/-- `SWAP (HL)`, 0xCB 0x36. -/
def execSwapAtHl (s : State) : Result := rotateOperand .swap .atHl s

/-- `SRL B`, 0xCB 0x38. -/
def execSrlB (s : State) : Result := rotateOperand .srl (.reg .b) s

/-- `SRL C`, 0xCB 0x39. -/
def execSrlC (s : State) : Result := rotateOperand .srl (.reg .c) s

/-- `SRL D`, 0xCB 0x3A. -/
def execSrlD (s : State) : Result := rotateOperand .srl (.reg .d) s

/-- `SRL E`, 0xCB 0x3B. -/
def execSrlE (s : State) : Result := rotateOperand .srl (.reg .e) s

/-- `SRL H`, 0xCB 0x3C. -/
def execSrlH (s : State) : Result := rotateOperand .srl (.reg .h) s

/-- `SRL L`, 0xCB 0x3D. -/
def execSrlL (s : State) : Result := rotateOperand .srl (.reg .l) s

/-- `SRL A`, 0xCB 0x3F. -/
def execSrlA (s : State) : Result := rotateOperand .srl (.reg .a) s

/-- `SRL (HL)`, 0xCB 0x3E. -/
def execSrlAtHl (s : State) : Result := rotateOperand .srl .atHl s

end Sys2Proof.Machine
end

