-- ==== Sys2Proof/Machine/Stack.lean ====
section
/-! DEFINITION. PUSH and POP (45_stack.md R362 to R364). -/

namespace Sys2Proof.Machine

/-- `PUSH rr` (R362). -/
def pushPair (rr : StackPair) (s : State) : Result := .next ((s.push16 (s.stackPair rr)).advance 1)

/-- `POP rr` for BC, DE and HL (R363). -/
def popPair (rr : StackPair) (s : State) : Result := .next ((s.drop16.setStackPair rr s.top16).advance 1)

/-- `POP AF` (R364): F as popped, or with F[3:0] cleared, by F_LOW_NIBBLE_MASK. -/
def popAccumulatorFlags (s : State) : Result :=
  let v := s.top16
  .next ((s.drop16.setStackPair .af (joinBytes (hiByte v) (poppedF s.params (loByte v)))).advance 1)

/-! ## The instructions -/

/-- `PUSH BC`, 0xC5. -/
def execPushBc (s : State) : Result := pushPair .bc s

/-- `PUSH DE`, 0xD5. -/
def execPushDe (s : State) : Result := pushPair .de s

/-- `PUSH HL`, 0xE5. -/
def execPushHl (s : State) : Result := pushPair .hl s

/-- `PUSH AF`, 0xF5. -/
def execPushAf (s : State) : Result := pushPair .af s

/-- `POP BC`, 0xC1. -/
def execPopBc (s : State) : Result := popPair .bc s

/-- `POP DE`, 0xD1. -/
def execPopDe (s : State) : Result := popPair .de s

/-- `POP HL`, 0xE1. -/
def execPopHl (s : State) : Result := popPair .hl s

/-- `POP AF`, 0xF1. -/
def execPopAf (s : State) : Result := popAccumulatorFlags s

end Sys2Proof.Machine
end

