-- ==== Sys2Proof/Machine/System.lean ====
section
/-! DEFINITION. The system instructions NOP, EI and DI, and the opcodes that raise UnimplementedOpcode (40_dispatch.md R149 to R154). -/

namespace Sys2Proof.Machine

/-- `NOP`: nothing but the pc (R149). -/
def nop (s : State) : Result := .next (s.advance 1)

/-- EI and DI schedule an edge and leave IME (R150, R151). -/
def schedule (edge : Pending) (s : State) : Result := .next (({ s with pending := edge }).advance 1)

/-- `NOP`, 0x00. -/
def execNop (s : State) : Result := nop s

/-- `EI`, 0xFB. -/
def execEi (s : State) : Result := schedule .pendingEnable s

/-- `DI`, 0xF3. -/
def execDi (s : State) : Result := schedule .pendingDisable s

/-! HALT (R152), STOP (R153) and the unassigned opcodes (R154) raise UnimplementedOpcode (92_eei_decisions.md D5). -/

/-- `STOP`, 0x10. -/
def execStop (s : State) : Result := raiseUnimplemented 0x10 s

/-- `HALT`, 0x76. -/
def execHalt (s : State) : Result := raiseUnimplemented 0x76 s

/-- `unassigned D3`, 0xD3. -/
def execIllegalD3 (s : State) : Result := raiseUnimplemented 0xD3 s

/-- `unassigned DB`, 0xDB. -/
def execIllegalDB (s : State) : Result := raiseUnimplemented 0xDB s

/-- `unassigned DD`, 0xDD. -/
def execIllegalDD (s : State) : Result := raiseUnimplemented 0xDD s

/-- `unassigned E3`, 0xE3. -/
def execIllegalE3 (s : State) : Result := raiseUnimplemented 0xE3 s

/-- `unassigned E4`, 0xE4. -/
def execIllegalE4 (s : State) : Result := raiseUnimplemented 0xE4 s

/-- `unassigned EB`, 0xEB. -/
def execIllegalEB (s : State) : Result := raiseUnimplemented 0xEB s

/-- `unassigned EC`, 0xEC. -/
def execIllegalEC (s : State) : Result := raiseUnimplemented 0xEC s

/-- `unassigned ED`, 0xED. -/
def execIllegalED (s : State) : Result := raiseUnimplemented 0xED s

/-- `unassigned F4`, 0xF4. -/
def execIllegalF4 (s : State) : Result := raiseUnimplemented 0xF4 s

/-- `unassigned FC`, 0xFC. -/
def execIllegalFC (s : State) : Result := raiseUnimplemented 0xFC s

/-- `unassigned FD`, 0xFD. -/
def execIllegalFD (s : State) : Result := raiseUnimplemented 0xFD s

end Sys2Proof.Machine
end

