-- ==== Sys2Proof/Machine/Execute.lean ====
section
/-! DEFINITION. The one operation of the block, `execute(S, src)` (40_dispatch.md R140): fetch and decode (R141, R142), the unimplemented check (R143), the pending IME
edge (R144), the instruction's own rule with its pc update (R145), the result (R146). -/

namespace Sys2Proof.Machine

/-- The outcome of a step (R140): the new state and the cycle count, or a fault, with which the state stays as it was (R147). -/
inductive StepResult where
  | ok (s : State) (cycles : Nat)
  | fault (r : Fault)
  /-- An arm of `exec` with no meaning: no arm answers it. -/
  | refused (r : Refusal)
  deriving DecidableEq, Repr

/-- Byte k of a host's buffer, or the index at which it has none (R141, R381). -/
def bufferByte (bytes : List Byte) (index : Int) : Except Fault Byte :=
  if 0 ≤ index then
    match bytes[index.toNat]? with
    | some b => .ok b
    | none => .error (.addressingError index)
  else .error (.addressingError index)

/-- `Fetch(k)` (R141). -/
def fetchByte (src : FetchSource) (s : State) (k : Nat) : Except Fault Byte :=
  match src with
  | .closedMemory => .ok (s.read (s.pc + BitVec.ofNat 16 k))
  | .hostBuffer bytes startIndex => bufferByte bytes (startIndex + k)

/-- The opcodes of HALT, STOP and the eleven unassigned rows (R119, R143). -/
def isUnimplemented (i : Instr) : Bool :=
  match i with
  | .halt | .stop => true
  | .illegalD3 | .illegalDB | .illegalDD | .illegalE3 | .illegalE4 | .illegalEB | .illegalEC | .illegalED => true
  | .illegalF4 | .illegalFC | .illegalFD => true
  | _ => false

/-- The state in which an instruction's own rule runs: an unimplemented opcode faults before the pending edge is applied (R143), every other runs after it (R144). -/
def beforeRule (i : Instr) (s : State) : State := if isUnimplemented i then s else s.applyPendingEdge

/-- `execute(S, src)` (R140). -/
def execute (src : FetchSource) (s : State) : StepResult :=
  match decodeFrom (fetchByte src s) with
  | .error r => .fault r
  | .ok i =>
    match exec i (beforeRule i s) with
    | .next t => .ok t (cycles i s)
    | .fault r => .fault r
    | .refused r => .refused r

/-- A step's result without its cycle count, as the host's interface has it. -/
def StepResult.outcome : StepResult → Host.Outcome State Fault Refusal
  | .ok s _ => .next s
  | .fault r => .fault r
  | .refused r => .refused r

/-- The state after a step that began in `s`: the new one, or `s` itself where the step did not succeed (R147, R383). -/
def StepResult.stateAfter (r : StepResult) (s : State) : State :=
  match r with
  | .ok t _ => t
  | .fault _ => s
  | .refused _ => s

/-- Bytes placed at pc, as the program a step fetches (log 7). -/
def placeAtPc (bytes : List Byte) (s : State) : State := { s with mem := s.mem.load s.pc bytes }

end Sys2Proof.Machine
end

