-- ==== Sys2Proof/Machine/Step.lean ====
section
/-! DEFINITION. The step of the host's interface: `execute` in the default configuration `ClosedMemory` (00_scope.md R5; log 3). -/

namespace Sys2Proof.Machine

/-- One step: `execute(S, ClosedMemory)` without the cycle count. -/
def step (s : State) : Host.Outcome State Fault Refusal := (execute .closedMemory s).outcome

/-- `s` with the instruction of a row's word where `step` fetches next: its three bytes at pc, pc + 1 and pc + 2 (log 7). -/
def State.withFetchWord (s : State) (nbits w : Nat) : State := placeAtPc (Sys2Proof.tableWordBytes nbits w) s

end Sys2Proof.Machine
end

