-- ==== Sys2Proof/Machine/HostPort.lean ====
section
/-! DEFINITION. What the host may do between steps (10_state.md R43; 60_exceptions.md R392): read and write A, B, C, D, E, F, H, L, pc, sp, IME and any byte of memory. `pending`
has no accessor (92_eei_decisions.md D21). No step does any of this. -/

namespace Sys2Proof.Machine

/-- The eight 8-bit cells the host names (R43): F is one of them. -/
inductive HostCell where
  | a | f | b | c | d | e | h | l
  deriving DecidableEq, Repr

/-- A write of the host's, of a value in range (D29). -/
inductive HostWrite where
  | cell (r : HostCell) (v : Byte)
  | pc (v : Word)
  | sp (v : Word)
  | ime (v : Bool)
  | memory (address : Word) (v : Byte)
  deriving DecidableEq, Repr

/-- The host's read of an 8-bit cell; pc, sp and IME it reads as the fields of the state, a memory byte by `State.read`. -/
def State.hostCell (s : State) : HostCell → Byte
  | .a => s.a
  | .f => s.f
  | .b => s.b
  | .c => s.c
  | .d => s.d
  | .e => s.e
  | .h => s.h
  | .l => s.l

/-- The state after a host's write: F takes all eight bits, and a write of IME leaves `pending` (R43). -/
def State.hostWrite (s : State) : HostWrite → State
  | .cell .a v => { s with a := v }
  | .cell .f v => { s with f := v }
  | .cell .b v => { s with b := v }
  | .cell .c v => { s with c := v }
  | .cell .d v => { s with d := v }
  | .cell .e v => { s with e := v }
  | .cell .h v => { s with h := v }
  | .cell .l v => { s with l := v }
  | .pc v => { s with pc := v }
  | .sp v => { s with sp := v }
  | .ime v => { s with ime := v }
  | .memory a v => s.write a v

end Sys2Proof.Machine
end

