-- ==== Sys2Proof/Machine/Accesses.lean ====
section
/-! DEFINITION. The memory accesses of an instruction and their order: the table of 20_memory.md R76 and the order of R78 (92_eei_decisions.md D16). Nothing of the step reads
them; they say which addresses an instruction touches, for the frame statements and for a model that records events. -/

namespace Sys2Proof.Machine

/-- One byte access at the port. -/
inductive Access where
  | fetch (address : Word)
  | read (address : Word)
  | write (address : Word)
  deriving DecidableEq, Repr

/-- The two writes of a push: the high byte at sp - 1, then the low byte at sp - 2 (R78, R360). -/
def pushAccesses (s : State) : List Access := [.write (s.sp - 1), .write (s.sp - 2)]

/-- The two reads of a pop: the low byte at sp, then the high byte at sp + 1 (R78, R361). -/
def popAccesses (s : State) : List Access := [.read s.sp, .read (s.sp + 1)]

/-- A read and then a write of the same address. -/
def modifyAccesses (address : Word) : List Access := [.read address, .write address]

/-- The data accesses of an instruction, in order (R76, R78): the rows of R76 by their addresses, then "none: every other instruction". -/
def dataAccesses (i : Instr) (s : State) : List Access :=
  match i with
  -- 1-byte read
  | .ldBAtHl | .ldCAtHl | .ldDAtHl | .ldEAtHl | .ldHAtHl | .ldLAtHl | .ldAAtHl | .ldAAtHlInc | .ldAAtHlDec |
    .addAAtHl | .adcAAtHl | .subAAtHl | .sbcAAtHl | .andAAtHl | .xorAAtHl | .orAAtHl | .cpAAtHl | .bit0AtHl |
    .bit1AtHl | .bit2AtHl | .bit3AtHl | .bit4AtHl | .bit5AtHl | .bit6AtHl | .bit7AtHl => [.read s.hl]
  | .ldAAtBc => [.read (s.reg16 .bc)]
  | .ldAAtDe => [.read (s.reg16 .de)]
  | .ldAAtNn nn => [.read nn]
  | .ldhAAtN n => [.read (ioAddress n)]
  | .ldhAAtC => [.read (ioAddress s.c)]
  -- 1-byte write
  | .ldAtHlB | .ldAtHlC | .ldAtHlD | .ldAtHlE | .ldAtHlH | .ldAtHlL | .ldAtHlA | .ldAtHlN _ | .ldAtHlIncA |
    .ldAtHlDecA => [.write s.hl]
  | .ldAtBcA => [.write (s.reg16 .bc)]
  | .ldAtDeA => [.write (s.reg16 .de)]
  | .ldAtNnA nn => [.write nn]
  | .ldhAtNA n => [.write (ioAddress n)]
  | .ldhAtCA => [.write (ioAddress s.c)]
  -- 1-byte read, then 1-byte write of the same address
  | .incAtHl | .decAtHl | .rlcAtHl | .rrcAtHl | .rlAtHl | .rrAtHl | .slaAtHl | .sraAtHl | .swapAtHl | .srlAtHl |
    .res0AtHl | .res1AtHl | .res2AtHl | .res3AtHl | .res4AtHl | .res5AtHl | .res6AtHl | .res7AtHl | .set0AtHl |
    .set1AtHl | .set2AtHl | .set3AtHl | .set4AtHl | .set5AtHl | .set6AtHl | .set7AtHl => modifyAccesses s.hl
  -- 2-byte write
  | .ldAtNnSp nn => [.write nn, .write (nn + 1)]
  | .pushBc | .pushDe | .pushHl | .pushAf | .callNn _ | .rst00 | .rst08 | .rst10 | .rst18 | .rst20 | .rst28 |
    .rst30 | .rst38 => pushAccesses s
  | .callNzNn _ => if condHolds .nz s.f then pushAccesses s else []
  | .callZNn _ => if condHolds .z s.f then pushAccesses s else []
  | .callNcNn _ => if condHolds .nc s.f then pushAccesses s else []
  | .callCNn _ => if condHolds .c s.f then pushAccesses s else []
  -- 2-byte read
  | .popBc | .popDe | .popHl | .popAf | .ret | .reti => popAccesses s
  | .retNz => if condHolds .nz s.f then popAccesses s else []
  | .retZ => if condHolds .z s.f then popAccesses s else []
  | .retNc => if condHolds .nc s.f then popAccesses s else []
  | .retC => if condHolds .c s.f then popAccesses s else []
  -- none: every other instruction
  | _ => []

/-- The addresses an instruction writes. -/
def storedAddresses (i : Instr) (s : State) : List Word :=
  (dataAccesses i s).filterMap fun
    | .write a => some a
    | _ => none

/-- The addresses whose bytes an instruction reads as data. -/
def readAddresses (i : Instr) (s : State) : List Word :=
  (dataAccesses i s).filterMap fun
    | .read a => some a
    | _ => none

/-- The fetches of a step in `ClosedMemory`, in increasing order (R78, R141). -/
def fetchAccesses (length : Nat) (s : State) : List Access :=
  (List.range length).map fun k => .fetch (s.pc + BitVec.ofNat 16 k)

/-- Every access of a step in `ClosedMemory`, in the order of R78: the fetches, then the data accesses. -/
def events (i : Instr) (s : State) : List Access :=
  fetchAccesses (opcodeLength ((encode i).headD 0)) s ++ dataAccesses i s

end Sys2Proof.Machine
end

