-- ==== Sys2Proof/Machine/Run.lean ====
section
/-! DEFINITION. A run (70_reset_and_hazards.md R416): the host calls `execute`, each time with an instruction source of its choice, until a step faults or it stops calling. -/

namespace Sys2Proof.Machine

/-- How a run ended (R416). -/
inductive RunStop where
  /-- The host stopped calling. -/
  | byHost
  | byFault (r : Fault)
  /-- An arm of `exec` with no meaning: no arm answers it. -/
  | byRefusal (r : Refusal)
  deriving DecidableEq, Repr

/-- The end of a run: the state, which is the one BEFORE the step that faulted, the sum of the returned cycle counts, and why it ended. -/
structure RunEnd where
  state : State
  cycles : Nat
  stop : RunStop
  deriving DecidableEq, Repr

/-- One call of `execute` for each source, up to the first fault, with the cycles counted so far. -/
def runFrom (sources : List FetchSource) (s : State) (counted : Nat) : RunEnd :=
  match sources with
  | [] => { state := s, cycles := counted, stop := .byHost }
  | src :: rest =>
    match execute src s with
    | .ok t n => runFrom rest t (counted + n)
    | .fault r => { state := s, cycles := counted, stop := .byFault r }
    | .refused r => { state := s, cycles := counted, stop := .byRefusal r }

/-- A run of at most `n` steps in `ClosedMemory`. -/
def runClosed (n : Nat) (s : State) : RunEnd := runFrom (List.replicate n .closedMemory) s 0

end Sys2Proof.Machine
end

