-- ==== Sys2Proof/Safety.lean ====
section
/-! DEFINITION. The terms in which claims speak of a step: which steps are safe, what two states share, the invariants, the numbers of the encoding tables (30_encoding.md
R102 to R109), the results of the arithmetic rules as plain numbers, and the classes of R35, R145 and R143 as functions of an instruction. No definition of the machine uses one of these. -/

namespace Sys2Proof.Machine

/-! ## Outcomes -/

/-- The instruction completes, in a state with the property. -/
def completes (r : Result) (p : State → Prop) : Prop := ∃ t, r = .next t ∧ p t

/-- The instruction is encoded in these bytes, returns this cycle count, and completes in a state with the property. -/
def runsAs (i : Instr) (bytes : List Byte) (count : Nat) (s : State) (p : State → Prop) : Prop :=
  encode i = bytes ∧ cycles i s = count ∧ completes (exec i s) p

/-- A step is safe where it does not stop. -/
def safeStep (s : State) : Prop := ∃ t, step s = .next t

/-! ## What two states share -/

/-- Every 8-bit register of the register field (R103) but those listed holds what it held. F is not one of them. -/
def sameRegsBut (rs : List Reg8) (s t : State) : Prop := ∀ r, r ∉ rs → t.reg8 r = s.reg8 r

/-- Every byte of memory but those listed reads as it read. -/
def sameMemoryBut (addresses : List Word) (s t : State) : Prop := ∀ a, a ∉ addresses → t.read a = s.read a

/-- IME, the pending edge and the parameters are what they were. -/
def sameInterrupts (s t : State) : Prop := t.ime = s.ime ∧ t.pending = s.pending ∧ t.params = s.params

/-- sp, the interrupt state and the parameters are what they were. -/
def sameControl (s t : State) : Prop := t.sp = s.sp ∧ sameInterrupts s t

/-- The four flags of F, and F[3:0] as it was (R34). -/
def flagsAre (s t : State) (z n h c : Bool) : Prop :=
  flagZ t.f = z ∧ flagN t.f = n ∧ flagH t.f = h ∧ flagC t.f = c ∧ lowNibble t.f = lowNibble s.f

/-- The next pc: `length` further on, modulo 65536 (R145). -/
def pcAdvanced (length : Nat) (s t : State) : Prop := t.pc.toNat = (s.pc.toNat + length) % 65536

/-- All but pc is what it was, memory byte by byte. -/
def sameButPc (s t : State) : Prop := sameRegsBut [] s t ∧ t.f = s.f ∧ sameControl s t ∧ sameMemoryBut [] s t

/-- The register holds `v`, pc is advanced, and nothing else changed. -/
def loaded (r : Reg8) (v : Byte) (length : Nat) (s t : State) : Prop :=
  t.reg8 r = v ∧ sameRegsBut [r] s t ∧ t.f = s.f ∧ sameControl s t ∧ sameMemoryBut [] s t ∧ pcAdvanced length s t

/-- The byte at the address holds `v`, pc is advanced, and nothing else changed. -/
def stored (address : Word) (v : Byte) (length : Nat) (s t : State) : Prop :=
  t.read address = v ∧ sameMemoryBut [address] s t ∧ sameRegsBut [] s t ∧ t.f = s.f ∧ sameControl s t ∧ pcAdvanced length s t

/-- The 8-bit operand holds `v`, and no other register and no other byte of memory changed. The address of (HL) is the HL of `s`. -/
def operandWritten (o : Operand8) (v : Byte) (s t : State) : Prop :=
  match o with
  | .reg r => t.reg8 r = v ∧ sameRegsBut [r] s t ∧ sameMemoryBut [] s t
  | .atHl => t.read (s.reg16 .hl) = v ∧ sameRegsBut [] s t ∧ sameMemoryBut [s.reg16 .hl] s t

/-- The 16-bit register holds `v`, high byte in the first-named register (R32), and no other register of the register field and not sp changed. -/
def pairWritten (rr : Reg16) (v : Word) (s t : State) : Prop :=
  match rr with
  | .bc => t.b = hiByte v ∧ t.c = loByte v ∧ sameRegsBut [.b, .c] s t ∧ t.sp = s.sp
  | .de => t.d = hiByte v ∧ t.e = loByte v ∧ sameRegsBut [.d, .e] s t ∧ t.sp = s.sp
  | .hl => t.h = hiByte v ∧ t.l = loByte v ∧ sameRegsBut [.h, .l] s t ∧ t.sp = s.sp
  | .sp => t.sp = v ∧ sameRegsBut [] s t

/-- `v` stands on the stack, low byte at the new sp and high byte above it, and no other byte of memory changed (R360). -/
def pushedWord (v : Word) (s t : State) : Prop :=
  t.sp.toNat = (s.sp.toNat + 65534) % 65536 ∧ t.read (s.sp - 2) = loByte v ∧ t.read (s.sp - 1) = hiByte v ∧
    sameMemoryBut [s.sp - 2, s.sp - 1] s t

/-- sp went up by 2 and no byte of memory changed (R361). -/
def poppedWord (s t : State) : Prop := t.sp.toNat = (s.sp.toNat + 2) % 65536 ∧ sameMemoryBut [] s t

/-- The 16-bit value on top of the stack: low byte at sp, high byte at sp + 1 (R361). -/
def stackTop (s : State) : Word := joinBytes (s.read (s.sp + 1)) (s.read s.sp)

/-! ## Invariants -/

/-- The memory is in its canonical form. -/
def memoryCanonical (s : State) : Prop := s.mem.wf

/-- The machine masks the popped F, and F[3:0] is zero (R34). -/
def maskedFlags (s : State) : Prop := s.params.fLowNibbleMask = true ∧ lowNibble s.f = 0

/-! ## The numbers of the encoding tables -/

/-- The opcode byte of the fields x, y and z (R102). -/
def opByte (x y z : Nat) : Byte := BitVec.ofNat 8 (64 * x + 8 * y + z)

/-- The value of the 8-bit register field (R103). -/
def reg8Code : Reg8 → Nat
  | .b => 0
  | .c => 1
  | .d => 2
  | .e => 3
  | .h => 4
  | .l => 5
  | .a => 7

/-- The value of the 8-bit operand field (R103): 6 is the byte at HL. -/
def operandCode : Operand8 → Nat
  | .reg r => reg8Code r
  | .atHl => 6

/-- The value of the field `rp` (R104). -/
def reg16Code : Reg16 → Nat
  | .bc => 0
  | .de => 1
  | .hl => 2
  | .sp => 3

/-- The value of the field `rp2` (R105). -/
def stackPairCode : StackPair → Nat
  | .bc => 0
  | .de => 1
  | .hl => 2
  | .af => 3

/-- The value of the condition field (R106). -/
def condCode : Cond → Nat
  | .nz => 0
  | .z => 1
  | .nc => 2
  | .c => 3

/-- The value of the ALU operation field (R107). -/
def aluOpCode : AluOp → Nat
  | .add => 0
  | .adc => 1
  | .sub => 2
  | .sbc => 3
  | .and => 4
  | .xor => 5
  | .or => 6
  | .cp => 7

/-- The value of the rotate and shift field (R108). -/
def rotOpCode : RotOp → Nat
  | .rlc => 0
  | .rrc => 1
  | .rl => 2
  | .rr => 3
  | .sla => 4
  | .sra => 5
  | .swap => 6
  | .srl => 7

/-- The displacement an offset byte stands for: values above 0x7F are negative (R112, R223). -/
def displacement (n : Byte) : Int := if n.toNat < 128 then n.toNat else n.toNat - 256

/-- Whether a condition holds, by the flag bit it names (R36). -/
def condition (cc : Cond) (s : State) : Bool :=
  match cc with
  | .nz => !s.f.getLsbD 7
  | .z => s.f.getLsbD 7
  | .nc => !s.f.getLsbD 4
  | .c => s.f.getLsbD 4

/-! ## Results of the rules as numbers -/

/-- A and the four flags of an 8-bit operation on A written, pc advanced, and nothing else changed. -/
def accumulated (a : Nat) (z n h c : Bool) (length : Nat) (s t : State) : Prop :=
  t.a = BitVec.ofNat 8 a ∧ flagsAre s t z n h c ∧ sameRegsBut [.a] s t ∧ sameControl s t ∧ sameMemoryBut [] s t ∧
    pcAdvanced length s t

/-- A + v + cin (R250). -/
def sumWritten (v : Byte) (cin : Nat) (length : Nat) (s t : State) : Prop :=
  let sum := s.a.toNat + v.toNat + cin
  accumulated sum (decide (sum % 256 = 0)) false (decide (15 < s.a.toNat % 16 + v.toNat % 16 + cin)) (decide (255 < sum)) length s t

/-- A - v - cin, put into A or, by a compare, discarded (R251). -/
def differenceWritten (discard : Bool) (v : Byte) (cin : Nat) (length : Nat) (s t : State) : Prop :=
  let difference := s.a.toNat + 512 - (v.toNat + cin)
  accumulated (if discard then s.a.toNat else difference) (decide (difference % 256 = 0)) true
    (decide (s.a.toNat % 16 < v.toNat % 16 + cin)) (decide (s.a.toNat < v.toNat + cin)) length s t

/-- A logic result (R300). -/
def logicWritten (res : Byte) (isAnd : Bool) (length : Nat) (s t : State) : Prop :=
  accumulated res.toNat (decide (res.toNat = 0)) false isAnd false length s t

/-- The result of a rotate or shift of a byte v with the carry-in cin, as a number (R310). -/
def shiftedNumber (op : RotOp) (v cin : Nat) : Nat :=
  match op with
  | .rlc => 2 * v % 256 + v / 128
  | .rrc => v / 2 + 128 * (v % 2)
  | .rl => 2 * v % 256 + cin
  | .rr => v / 2 + 128 * cin
  | .sla => 2 * v % 256
  | .sra => v / 2 + 128 * (v / 128)
  | .swap => 16 * v % 256 + v / 16
  | .srl => v / 2

/-- The bit a rotate or shift of a byte v moves out (R310). -/
def shiftedOut (op : RotOp) (v : Nat) : Bool :=
  match op with
  | .rlc | .rl | .sla => decide (128 ≤ v)
  | .rrc | .rr | .sra | .srl => decide (v % 2 = 1)
  | .swap => false

/-- The low byte of s and the raw byte n added as unsigned numbers: H and C of `AddSpE(s, n)`, with Z and N zero (R278). -/
def offsetFlags (x : Word) (n : Byte) (s t : State) : Prop :=
  flagsAre s t false false (decide (15 < x.toNat % 16 + n.toNat % 16)) (decide (255 < x.toNat % 256 + n.toNat))

/-- A number below 100 as two decimal digits, one in each nibble. -/
def bcd (k : Nat) : Nat := 16 * (k / 10) + k % 10

/-! ## Classes of instructions -/

/-- The thirteen instructions that raise UnimplementedOpcode, with their opcodes (R143, R382). -/
def unimplementedRows : List (Instr × Byte) :=
  [(.stop, 0x10), (.halt, 0x76), (.illegalD3, 0xD3), (.illegalDB, 0xDB), (.illegalDD, 0xDD), (.illegalE3, 0xE3), (.illegalE4, 0xE4),
    (.illegalEB, 0xEB), (.illegalEC, 0xEC), (.illegalED, 0xED), (.illegalF4, 0xF4), (.illegalFC, 0xFC), (.illegalFD, 0xFD)]

/-- The thirteen opcodes. -/
def unimplementedOpcodes : List Byte := unimplementedRows.map Prod.snd

/-- The four flags (R33). -/
inductive Flag where
  | z | n | h | c
  deriving DecidableEq, Repr

/-- The bit of a flag in F (R33). -/
def flagBit (fl : Flag) (f : Byte) : Bool :=
  match fl with
  | .z => f.getLsbD 7
  | .n => f.getLsbD 6
  | .h => f.getLsbD 5
  | .c => f.getLsbD 4

/-- The flags an extended opcode writes: class (b) for x = 0, BIT of class (d) for x = 1, none for RES and SET (R35). -/
def extendedFlagWrites (op : Byte) : List Flag :=
  match fieldX op with
  | 0 => [.z, .n, .h, .c]
  | 1 => [.z, .n, .h]
  | 2 => []
  | 3 => []

/-- The flags a primary opcode writes (R35): the classes (b), (c) and (e) all four, class (d) those it lists, class (a) none. -/
def primaryFlagWrites (op : Byte) : List Flag :=
  if op ∈ ([0x09, 0x19, 0x29, 0x39, 0x37, 0x3F] : List Byte) then [.n, .h, .c]
  else if op = 0x27 then [.z, .h, .c]
  else if op = 0x2F then [.n, .h]
  else if op ∈ ([0x07, 0x0F, 0x17, 0x1F, 0xE8, 0xF8, 0xF1] : List Byte) then [.z, .n, .h, .c]
  else if fieldX op = 0 ∧ (fieldZ op = 4 ∨ fieldZ op = 5) then [.z, .n, .h]
  else if fieldX op = 2 ∨ (fieldX op = 3 ∧ fieldZ op = 6) then [.z, .n, .h, .c]
  else []

/-- The flags an instruction writes. -/
def flagWrites (i : Instr) : List Flag :=
  match encode i with
  | 0xCB :: op :: _ => extendedFlagWrites op
  | op :: _ => primaryFlagWrites op
  | [] => []

/-- `x`, where the condition holds. -/
def whenTaken (cc : Cond) (s : State) (x : Word) : Option Word := if condition cc s then some x else none

/-- The target of a relative jump (R223). -/
def relativeJump (e : Int) (s : State) : Word := u16 (s.pc.toNat + 2 + e)

/-- The pc that the instruction's own rule writes, if it writes one (R145): a jump, a taken conditional jump, call or return, RET, RETI, RST, JP HL. -/
def pcWritten (i : Instr) (s : State) : Option Word :=
  match i with
  | .jpNn nn | .callNn nn => some nn
  | .jpHl => some (s.reg16 .hl)
  | .jrE e => some (relativeJump e s)
  | .ret | .reti => some (stackTop s)
  | .rst00 => some 0x00
  | .rst08 => some 0x08
  | .rst10 => some 0x10
  | .rst18 => some 0x18
  | .rst20 => some 0x20
  | .rst28 => some 0x28
  | .rst30 => some 0x30
  | .rst38 => some 0x38
  | .jpNzNn nn | .callNzNn nn => whenTaken .nz s nn
  | .jpZNn nn | .callZNn nn => whenTaken .z s nn
  | .jpNcNn nn | .callNcNn nn => whenTaken .nc s nn
  | .jpCNn nn | .callCNn nn => whenTaken .c s nn
  | .jrNzE e => whenTaken .nz s (relativeJump e s)
  | .jrZE e => whenTaken .z s (relativeJump e s)
  | .jrNcE e => whenTaken .nc s (relativeJump e s)
  | .jrCE e => whenTaken .c s (relativeJump e s)
  | .retNz => whenTaken .nz s (stackTop s)
  | .retZ => whenTaken .z s (stackTop s)
  | .retNc => whenTaken .nc s (stackTop s)
  | .retC => whenTaken .c s (stackTop s)
  | _ => none

/-- The conditional instructions with their conditions (R221, R224, R226, R228). -/
def conditionOf (i : Instr) : Option Cond :=
  match i with
  | .jpNzNn _ | .jrNzE _ | .callNzNn _ | .retNz => some .nz
  | .jpZNn _ | .jrZE _ | .callZNn _ | .retZ => some .z
  | .jpNcNn _ | .jrNcE _ | .callNcNn _ | .retNc => some .nc
  | .jpCNn _ | .jrCE _ | .callCNn _ | .retC => some .c
  | _ => none

/-- IME at the end of the first phases of a step: the pending edge applied (R144). -/
def imeAfterEdge (s : State) : Bool :=
  match s.pending with
  | .idle => s.ime
  | .pendingEnable => true
  | .pendingDisable => false

end Sys2Proof.Machine
end

