-- ==== Sys2Proof/Certificates/Slice0/Obligations.lean ====
section
/-! DEFINITION. The statements for the provers: what the instructions and the machine do, rule by rule of spec/. A statement with basis `derived` in OBLIGATIONS.json
rests on a decision, an inference or general knowledge that the spec marks as its own, which its docstring names. -/

section

open Sys2Proof Sys2Proof.Machine

/-- R140 to R144: fetch and decode, the unimplemented check, the pending edge, the instruction. Derived: the order of the check and the edge is the spec's decision D5
and D6. -/
def Obligations.StepRunsDecodedInstruction : Prop :=
  ∀ (s : State) (i : Instr) (rest : List Byte),
    decode [s.read s.pc, s.read (s.pc + 1), s.read (s.pc + 2)] = .ok (i, rest) →
      (i ∈ unimplementedRows.map Prod.fst → step s = exec i s) ∧
      (i ∉ unimplementedRows.map Prod.fst → step s = exec i { s with ime := imeAfterEdge s, pending := .idle }) ∧
      ∀ t, step s = .next t ↔ execute .closedMemory s = .ok t (cycles i s)

/-- R45, R410. Derived: `pending` is the spec's decision D19, and the MemInit of `State.reset` is the model's choice (log 2). -/
def Obligations.PowerOnState : Prop :=
  (∀ (p : Params) (m : Memory),
    let s := State.powerOn p m
    (∀ r, s.reg8 r = 0) ∧ s.f = 0 ∧ s.sp.toNat = 0xFFFE ∧ s.pc.toNat = 0 ∧ s.ime = false ∧ s.pending = .idle ∧
      s.mem = m ∧ s.params = p) ∧
  State.reset = State.powerOn { fLowNibbleMask := false, rotateAZ := .clear } State.reset.mem ∧
  ∀ a, State.reset.read a = 0

/-- The start of the two invariants that every step keeps (MemoryCanonicalInvariant, MaskedFlagsInvariant). The canonical form is the model's own (log 2). -/
def Obligations.InvariantsHoldAtReset : Prop :=
  memoryCanonical State.reset ∧ ∀ (z : RotateAZ) (m : Memory), maskedFlags (State.powerOn { fLowNibbleMask := true, rotateAZ := z } m)

/-- Words written out from R114 to R119. A sanity statement. -/
def Obligations.SampleWordsDecode : Prop :=
  decode [0x00] = .ok (.nop, []) ∧ decode [0x01, 0x34, 0x12] = .ok (.ldBcNn 0x1234, []) ∧ decode [0x08, 0x01, 0x20] = .ok (.ldAtNnSp 0x2001, []) ∧
  decode [0x18, 0xFE] = .ok (.jrE (-2), []) ∧ decode [0x2A] = .ok (.ldAAtHlInc, []) ∧ decode [0x27] = .ok (.daa, []) ∧
  decode [0x35] = .ok (.decAtHl, []) ∧ decode [0x78] = .ok (.ldAB, []) ∧ decode [0x76] = .ok (.halt, []) ∧ decode [0x9E] = .ok (.sbcAAtHl, []) ∧
  decode [0xE6, 0x0F] = .ok (.andAN 0x0F, []) ∧ decode [0xCB, 0x7E] = .ok (.bit7AtHl, []) ∧ decode [0xCB, 0x37] = .ok (.swapA, []) ∧
  decode [0xCD, 0x00, 0x02] = .ok (.callNn 0x0200, []) ∧ decode [0xD9] = .ok (.reti, []) ∧ decode [0xEF] = .ok (.rst28, []) ∧
  decode [0xF1] = .ok (.popAf, []) ∧ decode [0xE0, 0x80] = .ok (.ldhAtNA 0x80, []) ∧ decode [0xE8, 0xFF] = .ok (.addSpE (-1), []) ∧
  decode [0xDD, 0x55] = .ok (.illegalDD, [0x55])

/-- No bit of an encoding is dropped. Derived: that a displacement is an integer in a range is the model's choice (log 8). -/
def Obligations.DecodeEncode : Prop :=
  ∀ (i : Instr) (rest : List Byte), i.WellFormed = true → decode (encode i ++ rest) = .ok (i, rest)

/-- The other direction: every word has one meaning, and no two words mean the same. -/
def Obligations.EncodeDecode : Prop :=
  ∀ (bytes : List Byte) (i : Instr) (rest : List Byte), decode bytes = .ok (i, rest) →
    bytes = encode i ++ rest ∧ i.WellFormed = true ∧ (encode i).length = opcodeLength (bytes.headD 0)

/-- R114 to R119 give every first byte and every byte after 0xCB an entry, so decoding is total on bytes that are there. -/
def Obligations.DecodeFailsOnlyOnMissingByte : Prop :=
  ∀ (bytes : List Byte) (k : Nat),
    decode bytes = .error (.missingByte k) ↔ bytes.length = k ∧ (k = 0 ∨ k < opcodeLength (bytes.headD 0))

/-- R143, R152 to R154, R382. Derived: the fault is the spec's decision D5. The constructors stop, halt and the eleven illegal ones. -/
def Obligations.UnimplementedOpcodesFault : Prop :=
  ∀ (i : Instr) (op : Byte) (s : State), (i, op) ∈ unimplementedRows →
    encode i = [op] ∧ exec i s = .fault (.unimplementedOpcode op s.pc) ∧
    (s.read s.pc = op → execute .closedMemory s = .fault (.unimplementedOpcode op s.pc)) ∧
    ∀ before : List Byte, execute (.hostBuffer (before ++ [op]) before.length) s = .fault (.unimplementedOpcode op s.pc)

/-- R380: no other condition faults. R387: every instruction is executable at all times. -/
def Obligations.EveryOtherInstructionCompletes : Prop :=
  ∀ (i : Instr) (s : State), i ∉ unimplementedRows.map Prod.fst → completes (exec i s) fun t => t.params = s.params

/-- The whole machine's only stop in ClosedMemory (R380, R384). Derived: the fault is the spec's decision D5. -/
def Obligations.OnlyUnimplementedOpcodesStop : Prop :=
  ∀ s : State,
    (s.read s.pc ∈ unimplementedOpcodes → step s = .fault (.unimplementedOpcode (s.read s.pc) s.pc)) ∧
    (s.read s.pc ∉ unimplementedOpcodes → safeStep s)

/-- R416 with R147 and R383. Derived: that the unimplemented opcodes are faults is the spec's decision D5. -/
def Obligations.RunEndsBeforeFault : Prop :=
  ∀ (sources : List FetchSource) (s : State),
    (∀ r, (runFrom sources s 0).stop ≠ .byRefusal r) ∧
    ∀ r, (runFrom sources s 0).stop = .byFault r →
      ∃ (k : Nat) (src : FetchSource), sources[k]? = some src ∧
        (runFrom (sources.take k) s 0).stop = .byHost ∧
        execute src (runFrom (sources.take k) s 0).state = .fault r ∧
        (runFrom sources s 0).state = (runFrom (sources.take k) s 0).state ∧
        (runFrom sources s 0).cycles = (runFrom (sources.take k) s 0).cycles

/-- R144. -/
def Obligations.PendingEdgeApplied : Prop :=
  ∀ (src : FetchSource) (s : State) (i : Instr),
    decodeFrom (fetchByte src s) = .ok i → i ∉ unimplementedRows.map Prod.fst →
      (s.pending = .pendingEnable → (execute src s).outcome = exec i { s with ime := true, pending := .idle }) ∧
      (s.pending = .pendingDisable → (execute src s).outcome = exec i { s with ime := false, pending := .idle }) ∧
      (s.pending = .idle → (execute src s).outcome = exec i s)

/-- The IME delay as a rule of the whole machine (R412, R385). Derived: one pending cell is the spec's decision D13, DI's delay its decision D14. -/
def Obligations.ImeWriters : Prop :=
  ∀ (src : FetchSource) (s t : State) (i : Instr) (n : Nat),
    decodeFrom (fetchByte src s) = .ok i → execute src s = .ok t n →
      t.ime = (if i = .reti then true else imeAfterEdge s) ∧
      t.pending = (if i = .ei then .pendingEnable else if i = .di then .pendingDisable else .idle)

/-- R141, R381, R384. Derived: that only needed bytes are fetched is the spec's decision D15, HostBuffer as an option D2. A buffer index may be negative. -/
def Obligations.HostBufferAddressingError : Prop :=
  ∀ (bytes : List Byte) (start : Int) (s : State),
    let here (k : Nat) : Prop := 0 ≤ start + k ∧ start + k < bytes.length
    let length := opcodeLength (bytes.getD start.toNat 0)
    (¬ here 0 → execute (.hostBuffer bytes start) s = .fault (.addressingError start)) ∧
    (here 0 → 2 ≤ length → ¬ here 1 → execute (.hostBuffer bytes start) s = .fault (.addressingError (start + 1))) ∧
    (here 0 → here 1 → length = 3 → ¬ here 2 → execute (.hostBuffer bytes start) s = .fault (.addressingError (start + 2))) ∧
    (here 0 → (2 ≤ length → here 1) → (length = 3 → here 2) →
      ∀ index, execute (.hostBuffer bytes start) s ≠ .fault (.addressingError index))

/-- R141, R82: the source of the bytes is all that the two configurations differ in. -/
def Obligations.HostBufferMatchesMemory : Prop :=
  ∀ (bytes : List Byte) (start : Int) (s : State),
    (∀ k : Nat, k < opcodeLength (s.read s.pc) → bufferByte bytes (start + k) = .ok (s.read (s.pc + BitVec.ofNat 16 k))) →
      execute (.hostBuffer bytes start) s = execute .closedMemory s

/-- R149 to R151. Derived: DI's delay is the spec's decision D14. The constructors nop, ei and di. -/
def Obligations.SystemInstructions : Prop :=
  ∀ s : State,
    runsAs .nop [0x00] 4 s (fun t => sameButPc s t ∧ pcAdvanced 1 s t) ∧
    runsAs .ei [0xFB] 4 s (fun t => t.pending = .pendingEnable ∧ sameButPc { s with pending := .pendingEnable } t ∧ pcAdvanced 1 s t) ∧
    runsAs .di [0xF3] 4 s (fun t => t.pending = .pendingDisable ∧ sameButPc { s with pending := .pendingDisable } t ∧ pcAdvanced 1 s t)

/-- R170. The 49 constructors ldBB to ldAA. -/
def Obligations.LdRegReg : Prop :=
  ∀ (r r' : Reg8) (s : State),
    runsAs (ldForm (.reg r) (.reg r')) [opByte 1 (reg8Code r) (reg8Code r')] 4 s (loaded r (s.reg8 r') 1 s)

/-- R171, R174. The constructors ldBN, ldCN, ldDN, ldEN, ldHN, ldLN, ldAN and ldAtHlN. -/
def Obligations.LdImmediate : Prop :=
  ∀ (n : Byte) (s : State),
    (∀ r : Reg8, runsAs (ldImmForm (.reg r) n) [opByte 0 (reg8Code r) 6, n] 8 s (loaded r n 2 s)) ∧
    runsAs (.ldAtHlN n) [0x36, n] 12 s (stored (s.reg16 .hl) n 2 s)

/-- R172. The constructors ldBAtHl, ldCAtHl, ldDAtHl, ldEAtHl, ldHAtHl, ldLAtHl and ldAAtHl. -/
def Obligations.LdRegMem : Prop :=
  ∀ (r : Reg8) (s : State),
    runsAs (ldForm (.reg r) .atHl) [opByte 1 (reg8Code r) 6] 8 s (loaded r (s.read (s.reg16 .hl)) 1 s)

/-- R173. The constructors ldAtHlB, ldAtHlC, ldAtHlD, ldAtHlE, ldAtHlH, ldAtHlL and ldAtHlA. -/
def Obligations.LdMemReg : Prop :=
  ∀ (r : Reg8) (s : State),
    runsAs (ldForm .atHl (.reg r)) [opByte 1 6 (reg8Code r)] 8 s (stored (s.reg16 .hl) (s.reg8 r) 1 s)

/-- R175, R176, R179, R181, R183. The constructors ldAAtBc, ldAAtDe, ldAAtNn, ldhAAtN and ldhAAtC. -/
def Obligations.LdAFromAddress : Prop :=
  ∀ (n : Byte) (nn : Word) (s : State),
    runsAs .ldAAtBc [0x0A] 8 s (loaded .a (s.read (joinBytes s.b s.c)) 1 s) ∧
    runsAs .ldAAtDe [0x1A] 8 s (loaded .a (s.read (joinBytes s.d s.e)) 1 s) ∧
    runsAs (.ldAAtNn nn) [0xFA, loByte nn, hiByte nn] 16 s (loaded .a (s.read nn) 3 s) ∧
    runsAs (.ldhAAtN n) [0xF0, n] 12 s (loaded .a (s.read (joinBytes 0xFF n)) 2 s) ∧
    runsAs .ldhAAtC [0xF2] 8 s (loaded .a (s.read (joinBytes 0xFF s.c)) 1 s)

/-- R177, R178, R180, R182, R184. The constructors ldAtBcA, ldAtDeA, ldAtNnA, ldhAtNA and ldhAtCA. -/
def Obligations.LdAToAddress : Prop :=
  ∀ (n : Byte) (nn : Word) (s : State),
    runsAs .ldAtBcA [0x02] 8 s (stored (joinBytes s.b s.c) s.a 1 s) ∧
    runsAs .ldAtDeA [0x12] 8 s (stored (joinBytes s.d s.e) s.a 1 s) ∧
    runsAs (.ldAtNnA nn) [0xEA, loByte nn, hiByte nn] 16 s (stored nn s.a 3 s) ∧
    runsAs (.ldhAtNA n) [0xE0, n] 12 s (stored (joinBytes 0xFF n) s.a 2 s) ∧
    runsAs .ldhAtCA [0xE2] 8 s (stored (joinBytes 0xFF s.c) s.a 1 s)

/-- R185, R186. Derived: the wrap of HL is the spec's decision D4. The constructors ldAAtHlInc and ldAAtHlDec. -/
def Obligations.AutoIndexLoads : Prop :=
  ∀ s : State,
    runsAs .ldAAtHlInc [0x2A] 8 s (fun t => t.a = s.read (s.reg16 .hl) ∧ (t.reg16 .hl).toNat = ((s.reg16 .hl).toNat + 1) % 65536 ∧
      sameRegsBut [.a, .h, .l] s t ∧ t.f = s.f ∧ sameControl s t ∧ sameMemoryBut [] s t ∧ pcAdvanced 1 s t) ∧
    runsAs .ldAAtHlDec [0x3A] 8 s (fun t => t.a = s.read (s.reg16 .hl) ∧ (t.reg16 .hl).toNat = ((s.reg16 .hl).toNat + 65535) % 65536 ∧
      sameRegsBut [.a, .h, .l] s t ∧ t.f = s.f ∧ sameControl s t ∧ sameMemoryBut [] s t ∧ pcAdvanced 1 s t)

/-- R187, R188. The constructors ldAtHlIncA and ldAtHlDecA. -/
def Obligations.AutoIndexStores : Prop :=
  ∀ s : State,
    runsAs .ldAtHlIncA [0x22] 8 s (fun t => t.read (s.reg16 .hl) = s.a ∧ (t.reg16 .hl).toNat = ((s.reg16 .hl).toNat + 1) % 65536 ∧
      sameRegsBut [.h, .l] s t ∧ t.f = s.f ∧ sameControl s t ∧ sameMemoryBut [s.reg16 .hl] s t ∧ pcAdvanced 1 s t) ∧
    runsAs .ldAtHlDecA [0x32] 8 s (fun t => t.read (s.reg16 .hl) = s.a ∧ (t.reg16 .hl).toNat = ((s.reg16 .hl).toNat + 65535) % 65536 ∧
      sameRegsBut [.h, .l] s t ∧ t.f = s.f ∧ sameControl s t ∧ sameMemoryBut [s.reg16 .hl] s t ∧ pcAdvanced 1 s t)

/-- R189. The constructors ldBcNn, ldDeNn, ldHlNn and ldSpNn. -/
def Obligations.LdPairImm : Prop :=
  ∀ (rr : Reg16) (nn : Word) (s : State),
    runsAs (ldPairForm rr nn) [opByte 0 (2 * reg16Code rr) 1, loByte nn, hiByte nn] 12 s (fun t =>
      pairWritten rr nn s t ∧ t.f = s.f ∧ sameInterrupts s t ∧ sameMemoryBut [] s t ∧ pcAdvanced 3 s t)

/-- R190 to R192, R278. Derived: the wrap of nn + 1 is the spec's decision D4, LD SP,HL from general knowledge, the flags of LD HL,SP+e its decision D10. The
constructors ldAtNnSp, ldSpHl and ldHlSpE. -/
def Obligations.SpLoads : Prop :=
  ∀ (nn : Word) (n : Byte) (s : State),
    runsAs (.ldAtNnSp nn) [0x08, loByte nn, hiByte nn] 20 s (fun t => t.read nn = loByte s.sp ∧ t.read (nn + 1) = hiByte s.sp ∧
      sameMemoryBut [nn, nn + 1] s t ∧ sameRegsBut [] s t ∧ t.f = s.f ∧ sameControl s t ∧ pcAdvanced 3 s t) ∧
    runsAs .ldSpHl [0xF9] 8 s (fun t => t.sp = joinBytes s.h s.l ∧
      sameRegsBut [] s t ∧ t.f = s.f ∧ sameInterrupts s t ∧ sameMemoryBut [] s t ∧ pcAdvanced 1 s t) ∧
    runsAs (.ldHlSpE (displacement n)) [0xF8, n] 12 s (fun t => ((t.reg16 .hl).toNat : Int) = (s.sp.toNat + displacement n) % 65536 ∧
      offsetFlags s.sp n s t ∧ sameRegsBut [.h, .l] s t ∧ sameControl s t ∧ sameMemoryBut [] s t ∧ pcAdvanced 2 s t)

/-- R220 to R222. The constructors jpNn, jpNzNn, jpZNn, jpNcNn, jpCNn and jpHl. -/
def Obligations.JumpAbsolute : Prop :=
  ∀ (nn : Word) (cc : Cond) (s : State),
    runsAs (.jpNn nn) [0xC3, loByte nn, hiByte nn] 16 s (fun t => t.pc = nn ∧ sameButPc s t) ∧
    runsAs (jpForm cc nn) [opByte 3 (condCode cc) 2, loByte nn, hiByte nn] (if condition cc s then 16 else 12) s (fun t =>
      (if condition cc s then t.pc = nn else pcAdvanced 3 s t) ∧ sameButPc s t) ∧
    runsAs .jpHl [0xE9] 4 s (fun t => t.pc = joinBytes s.h s.l ∧ sameButPc s t)

/-- R223, R224. Derived: the wrap of the target is the spec's decision D4. The constructors jrE, jrNzE, jrZE, jrNcE and jrCE. -/
def Obligations.JumpRelative : Prop :=
  ∀ (n : Byte) (cc : Cond) (s : State),
    let target : Int := (s.pc.toNat + 2 + displacement n) % 65536
    runsAs (.jrE (displacement n)) [0x18, n] 12 s (fun t => (t.pc.toNat : Int) = target ∧ sameButPc s t) ∧
    runsAs (jrForm cc (displacement n)) [opByte 0 (4 + condCode cc) 0, n] (if condition cc s then 12 else 8) s (fun t =>
      (if condition cc s then (t.pc.toNat : Int) = target else pcAdvanced 2 s t) ∧ sameButPc s t)

/-- R225, R226, R230, R360. Derived: the byte order on the stack is the spec's decision D3. The constructors callNn, callNzNn, callZNn, callNcNn, callCNn and rst00 to
rst38. -/
def Obligations.CallsAndRst : Prop :=
  ∀ (nn : Word) (cc : Cond) (y : Fin 8) (s : State),
    let called (target length : Nat) (t : State) : Prop := t.pc = BitVec.ofNat 16 target ∧ pushedWord (BitVec.ofNat 16 (s.pc.toNat + length)) s t ∧
      sameRegsBut [] s t ∧ t.f = s.f ∧ sameInterrupts s t
    runsAs (.callNn nn) [0xCD, loByte nn, hiByte nn] 24 s (called nn.toNat 3) ∧
    runsAs (callForm cc nn) [opByte 3 (condCode cc) 4, loByte nn, hiByte nn] (if condition cc s then 24 else 12) s (fun t =>
      if condition cc s then called nn.toNat 3 t else pcAdvanced 3 s t ∧ sameButPc s t) ∧
    runsAs (rstForm y) [opByte 3 y.val 7] 16 s (called (8 * y.val) 1)

/-- R227 to R229, R361, R386. Derived: the byte order on the stack is the spec's decision D3. The constructors ret, retNz, retZ, retNc, retC and reti. -/
def Obligations.Returns : Prop :=
  ∀ (cc : Cond) (s : State),
    let returned (t : State) : Prop := t.pc = stackTop s ∧ poppedWord s t ∧ sameRegsBut [] s t ∧ t.f = s.f ∧ t.params = s.params ∧ t.pending = s.pending
    runsAs .ret [0xC9] 16 s (fun t => returned t ∧ t.ime = s.ime) ∧
    runsAs (retForm cc) [opByte 3 (condCode cc) 0] (if condition cc s then 20 else 8) s (fun t =>
      if condition cc s then returned t ∧ t.ime = s.ime else pcAdvanced 1 s t ∧ sameButPc s t) ∧
    runsAs .reti [0xD9] 16 s (fun t => returned t ∧ t.ime = true)

/-- R250, R252 to R257. The 18 constructors addAB to addAN and adcAB to adcAN. -/
def Obligations.AddAdc : Prop :=
  ∀ (o : Operand8) (n : Byte) (s : State),
    let carry := (s.f.getLsbD 4).toNat
    runsAs (aluForm .add o) [opByte 2 0 (operandCode o)] (if o = .atHl then 8 else 4) s (sumWritten (s.operand o) 0 1 s) ∧
    runsAs (aluImmForm .add n) [0xC6, n] 8 s (sumWritten n 0 2 s) ∧
    runsAs (aluForm .adc o) [opByte 2 1 (operandCode o)] (if o = .atHl then 8 else 4) s (sumWritten (s.operand o) carry 1 s) ∧
    runsAs (aluImmForm .adc n) [0xCE, n] 8 s (sumWritten n carry 2 s)

/-- R251, R258 to R266. The 27 constructors subAB to subAN, sbcAB to sbcAN and cpAB to cpAN. -/
def Obligations.SubSbcCp : Prop :=
  ∀ (o : Operand8) (n : Byte) (s : State),
    let carry := (s.f.getLsbD 4).toNat
    runsAs (aluForm .sub o) [opByte 2 2 (operandCode o)] (if o = .atHl then 8 else 4) s (differenceWritten false (s.operand o) 0 1 s) ∧
    runsAs (aluImmForm .sub n) [0xD6, n] 8 s (differenceWritten false n 0 2 s) ∧
    runsAs (aluForm .sbc o) [opByte 2 3 (operandCode o)] (if o = .atHl then 8 else 4) s (differenceWritten false (s.operand o) carry 1 s) ∧
    runsAs (aluImmForm .sbc n) [0xDE, n] 8 s (differenceWritten false n carry 2 s) ∧
    runsAs (aluForm .cp o) [opByte 2 7 (operandCode o)] (if o = .atHl then 8 else 4) s (differenceWritten true (s.operand o) 0 1 s) ∧
    runsAs (aluImmForm .cp n) [0xFE, n] 8 s (differenceWritten true n 0 2 s)

/-- R267 to R270. The 16 constructors incB to incAtHl and decB to decAtHl. -/
def Obligations.IncDec : Prop :=
  ∀ (o : Operand8) (s : State),
    let v := (s.operand o).toNat
    runsAs (incForm o) [opByte 0 (operandCode o) 4] (if o = .atHl then 12 else 4) s (fun t => operandWritten o (BitVec.ofNat 8 (v + 1)) s t ∧
      flagsAre s t (decide (v = 255)) false (decide (v % 16 = 15)) (s.f.getLsbD 4) ∧ sameControl s t ∧ pcAdvanced 1 s t) ∧
    runsAs (decForm o) [opByte 0 (operandCode o) 5] (if o = .atHl then 12 else 4) s (fun t => operandWritten o (BitVec.ofNat 8 (v + 255)) s t ∧
      flagsAre s t (decide (v = 1)) true (decide (v % 16 = 0)) (s.f.getLsbD 4) ∧ sameControl s t ∧ pcAdvanced 1 s t)

/-- R271. Derived: the exact algorithm is the spec's decision D22. The constructor daa. -/
def Obligations.DaaAdjusts : Prop :=
  ∀ s : State,
    let a := s.a.toNat
    let high := s.f.getLsbD 4 || decide (0x99 < a)
    let low := s.f.getLsbD 5 || decide (9 < a % 16)
    let up := (a + (if high then 0x60 else 0) + (if low then 0x06 else 0)) % 256
    let down := (a + 256 - (if s.f.getLsbD 4 then 0x60 else 0) - (if s.f.getLsbD 5 then 0x06 else 0)) % 256
    runsAs .daa [0x27] 4 s (if s.f.getLsbD 6 then accumulated down (decide (down = 0)) true false (s.f.getLsbD 4) 1 s
      else accumulated up (decide (up = 0)) false false high 1 s)

/-- The source's property of R271, and more: the nibbles are the digits of the decimal result. Derived: the algorithm is the spec's decision D22. -/
def Obligations.DaaAfterBcd : Prop :=
  ∀ (m k : Fin 100) (s : State),
    let start := { s with a := BitVec.ofNat 8 (bcd m.val), b := BitVec.ofNat 8 (bcd k.val) }
    completes (exec .addAB start) (fun t => completes (exec .daa t) fun u =>
      u.a.toNat = bcd ((m.val + k.val) % 100) ∧ flagC u.f = decide (100 ≤ m.val + k.val)) ∧
    completes (exec .subAB start) (fun t => completes (exec .daa t) fun u =>
      u.a.toNat = bcd ((m.val + 100 - k.val) % 100) ∧ flagC u.f = decide (m.val < k.val))

/-- R272, R273. The constructors cpl and scf. -/
def Obligations.CplScf : Prop :=
  ∀ s : State,
    runsAs .cpl [0x2F] 4 s (accumulated (255 - s.a.toNat) (s.f.getLsbD 7) true true (s.f.getLsbD 4) 1 s) ∧
    runsAs .scf [0x37] 4 s (accumulated s.a.toNat (s.f.getLsbD 7) false false true 1 s)

/-- R274. Derived: that Z is unchanged is the spec's inference from SCF. The constructor ccf. -/
def Obligations.CcfComplementsCarry : Prop :=
  ∀ s : State, runsAs .ccf [0x3F] 4 s (accumulated s.a.toNat (s.f.getLsbD 7) false false (!s.f.getLsbD 4) 1 s)

/-- R275, R276, R280. Derived: these rules are the spec's decision D11. The constructors incBc, incDe, incHl, incSp, decBc, decDe, decHl and decSp. -/
def Obligations.IncDecPair : Prop :=
  ∀ (rr : Reg16) (s : State),
    let v := (s.reg16 rr).toNat
    runsAs (incPairForm rr) [opByte 0 (2 * reg16Code rr) 3] 8 s (fun t => pairWritten rr (BitVec.ofNat 16 (v + 1)) s t ∧
      t.f = s.f ∧ sameInterrupts s t ∧ sameMemoryBut [] s t ∧ pcAdvanced 1 s t) ∧
    runsAs (decPairForm rr) [opByte 0 (2 * reg16Code rr + 1) 3] 8 s (fun t => pairWritten rr (BitVec.ofNat 16 (v + 65535)) s t ∧
      t.f = s.f ∧ sameInterrupts s t ∧ sameMemoryBut [] s t ∧ pcAdvanced 1 s t)

/-- R277, R280. Derived: the rule is the spec's decision D11. The constructors addHlBc, addHlDe, addHlHl and addHlSp. -/
def Obligations.AddHl : Prop :=
  ∀ (rr : Reg16) (s : State),
    let x := (s.reg16 .hl).toNat
    let y := (s.reg16 rr).toNat
    runsAs (addHlForm rr) [opByte 0 (2 * reg16Code rr + 1) 1] 8 s (fun t => (t.reg16 .hl).toNat = (x + y) % 65536 ∧
      flagsAre s t (s.f.getLsbD 7) false (decide (0x0FFF < x % 4096 + y % 4096)) (decide (0xFFFF < x + y)) ∧
      sameRegsBut [.h, .l] s t ∧ sameControl s t ∧ sameMemoryBut [] s t ∧ pcAdvanced 1 s t)

/-- R278, R279, R280. Derived: the rule is the spec's decision D11. The constructor addSpE. -/
def Obligations.AddSp : Prop :=
  ∀ (n : Byte) (s : State),
    runsAs (.addSpE (displacement n)) [0xE8, n] 16 s (fun t => (t.sp.toNat : Int) = (s.sp.toNat + displacement n) % 65536 ∧
      offsetFlags s.sp n s t ∧ sameRegsBut [] s t ∧ sameInterrupts s t ∧ sameMemoryBut [] s t ∧ pcAdvanced 2 s t)

/-- R300 to R309. The 27 constructors andAB to andAN, xorAB to xorAN and orAB to orAN. -/
def Obligations.Logic : Prop :=
  ∀ (o : Operand8) (n : Byte) (s : State),
    let v := s.operand o
    let count := if o = .atHl then 8 else 4
    runsAs (aluForm .and o) [opByte 2 4 (operandCode o)] count s (logicWritten (s.a &&& v) true 1 s) ∧
    runsAs (aluImmForm .and n) [0xE6, n] 8 s (logicWritten (s.a &&& n) true 2 s) ∧
    runsAs (aluForm .xor o) [opByte 2 5 (operandCode o)] count s (logicWritten (s.a ^^^ v) false 1 s) ∧
    runsAs (aluImmForm .xor n) [0xEE, n] 8 s (logicWritten (s.a ^^^ n) false 2 s) ∧
    runsAs (aluForm .or o) [opByte 2 6 (operandCode o)] count s (logicWritten (s.a ||| v) false 1 s) ∧
    runsAs (aluImmForm .or n) [0xF6, n] 8 s (logicWritten (s.a ||| n) false 2 s)

/-- R310 to R314. Derived: the instructions are from general knowledge and their Z is the spec's decision D9. The constructors rlca, rrca, rla and rra. -/
def Obligations.RotateA : Prop :=
  ∀ s : State,
    let a := s.a.toNat
    let carry := (s.f.getLsbD 4).toNat
    let rotated (op : RotOp) : State → Prop :=
      accumulated (shiftedNumber op a carry) (decide (s.params.rotateAZ = .fromResult ∧ shiftedNumber op a carry = 0)) false false (shiftedOut op a) 1 s
    runsAs .rlca [0x07] 4 s (rotated .rlc) ∧ runsAs .rrca [0x0F] 4 s (rotated .rrc) ∧
    runsAs .rla [0x17] 4 s (rotated .rl) ∧ runsAs .rra [0x1F] 4 s (rotated .rr)

/-- R310 and R315 to R322. The 32 constructors rlcB to rlcAtHl, rrcB to rrcAtHl, rlB to rlAtHl and rrB to rrAtHl. -/
def Obligations.Rotates : Prop :=
  ∀ (op : RotOp) (o : Operand8) (s : State), op ∈ ([.rlc, .rrc, .rl, .rr] : List RotOp) →
    let v := (s.operand o).toNat
    let result := shiftedNumber op v (s.f.getLsbD 4).toNat
    runsAs (rotForm op o) [0xCB, opByte 0 (rotOpCode op) (operandCode o)] (if o = .atHl then 16 else 8) s (fun t =>
      operandWritten o (BitVec.ofNat 8 result) s t ∧ flagsAre s t (decide (result = 0)) false false (shiftedOut op v) ∧
      sameControl s t ∧ pcAdvanced 2 s t)

/-- R310 and R323 to R330. The 32 constructors slaB to slaAtHl, sraB to sraAtHl, swapB to swapAtHl and srlB to srlAtHl. -/
def Obligations.ShiftsAndSwap : Prop :=
  ∀ (op : RotOp) (o : Operand8) (s : State), op ∈ ([.sla, .sra, .swap, .srl] : List RotOp) →
    let v := (s.operand o).toNat
    let result := shiftedNumber op v (s.f.getLsbD 4).toNat
    runsAs (rotForm op o) [0xCB, opByte 0 (rotOpCode op) (operandCode o)] (if o = .atHl then 16 else 8) s (fun t =>
      operandWritten o (BitVec.ofNat 8 result) s t ∧ flagsAre s t (decide (result = 0)) false false (shiftedOut op v) ∧
      sameControl s t ∧ pcAdvanced 2 s t)

/-- R331, R332. The 64 constructors bit0B to bit7AtHl. -/
def Obligations.TestBit : Prop :=
  ∀ (b : Fin 8) (o : Operand8) (s : State),
    runsAs (bitForm b o) [0xCB, opByte 1 b.val (operandCode o)] (if o = .atHl then 12 else 8) s (fun t =>
      flagsAre s t (decide ((s.operand o).toNat / 2 ^ b.val % 2 = 0)) false true (s.f.getLsbD 4) ∧
      sameRegsBut [] s t ∧ sameMemoryBut [] s t ∧ sameControl s t ∧ pcAdvanced 2 s t)

/-- R333 to R336. The 128 constructors res0B to res7AtHl and set0B to set7AtHl. -/
def Obligations.ResetAndSetBit : Prop :=
  ∀ (b : Fin 8) (o : Operand8) (s : State),
    let v := (s.operand o).toNat
    let bit := v / 2 ^ b.val % 2
    let count := if o = .atHl then 16 else 8
    runsAs (resForm b o) [0xCB, opByte 2 b.val (operandCode o)] count s (fun t =>
      operandWritten o (BitVec.ofNat 8 (v - bit * 2 ^ b.val)) s t ∧ t.f = s.f ∧ sameControl s t ∧ pcAdvanced 2 s t) ∧
    runsAs (setForm b o) [0xCB, opByte 3 b.val (operandCode o)] count s (fun t =>
      operandWritten o (BitVec.ofNat 8 (v + (1 - bit) * 2 ^ b.val)) s t ∧ t.f = s.f ∧ sameControl s t ∧ pcAdvanced 2 s t)

/-- R360, R362. Derived: the byte order on the stack is the spec's decision D3. The constructors pushBc, pushDe, pushHl and pushAf. -/
def Obligations.PushPair : Prop :=
  ∀ (rr : StackPair) (s : State),
    runsAs (pushForm rr) [opByte 3 (2 * stackPairCode rr) 5] 16 s (fun t =>
      pushedWord (s.stackPair rr) s t ∧ sameRegsBut [] s t ∧ t.f = s.f ∧ sameInterrupts s t ∧ pcAdvanced 1 s t)

/-- R361, R363. Derived: the byte order on the stack is the spec's decision D3. The constructors popBc, popDe and popHl. -/
def Obligations.PopPair : Prop :=
  ∀ s : State,
    let rest (changed : List Reg8) (t : State) : Prop := poppedWord s t ∧ sameRegsBut changed s t ∧ t.f = s.f ∧ sameInterrupts s t ∧ pcAdvanced 1 s t
    runsAs .popBc [0xC1] 12 s (fun t => t.c = s.read s.sp ∧ t.b = s.read (s.sp + 1) ∧ rest [.b, .c] t) ∧
    runsAs .popDe [0xD1] 12 s (fun t => t.e = s.read s.sp ∧ t.d = s.read (s.sp + 1) ∧ rest [.d, .e] t) ∧
    runsAs .popHl [0xE1] 12 s (fun t => t.l = s.read s.sp ∧ t.h = s.read (s.sp + 1) ∧ rest [.h, .l] t)

/-- R361, R364. Derived: F_LOW_NIBBLE_MASK is the spec's decision D7, the byte order on the stack D3. The constructor popAf. -/
def Obligations.PopAf : Prop :=
  ∀ s : State,
    runsAs .popAf [0xF1] 12 s (fun t => t.a = s.read (s.sp + 1) ∧
      t.f.toNat = (if s.params.fLowNibbleMask then (s.read s.sp).toNat / 16 * 16 else (s.read s.sp).toNat) ∧
      poppedWord s t ∧ sameRegsBut [.a] s t ∧ sameInterrupts s t ∧ pcAdvanced 1 s t)

/-- R365, which the spec derives itself. -/
def Obligations.PushPopRoundTrip : Prop :=
  ∀ (rr : StackPair) (s : State),
    completes (exec (pushForm rr) s) fun t => completes (exec (popForm rr) t) fun u =>
      u.sp = s.sp ∧ sameRegsBut [] s u ∧ u.read (s.sp - 2) = loByte (s.stackPair rr) ∧ u.read (s.sp - 1) = hiByte (s.stackPair rr) ∧
      (∀ fl, flagBit fl u.f = flagBit fl s.f) ∧
      lowNibble u.f = (if rr = .af ∧ s.params.fLowNibbleMask = true then 0 else lowNibble s.f)

/-- R32, with the reading of R31. -/
def Obligations.PairWrite : Prop :=
  ∀ (rr : Reg16) (v : Word) (r : Reg8) (w : Byte) (s : State),
    ((s.setReg16 rr v).reg16 rr = v ∧ pairWritten rr v s (s.setReg16 rr v)) ∧
    (s.setReg8 r w).reg8 r = w ∧ sameRegsBut [r] s (s.setReg8 r w) ∧
    (let t := s.setReg8 r w
     (t.reg16 .bc).toNat = 256 * t.b.toNat + t.c.toNat ∧ (t.reg16 .de).toNat = 256 * t.d.toNat + t.e.toNat ∧
       (t.reg16 .hl).toNat = 256 * t.h.toNat + t.l.toNat)

/-- R43, R392. Derived: that pending has no accessor is the spec's decision D21. -/
def Obligations.HostAccess : Prop :=
  ∀ (s : State) (w : HostWrite) (r : HostCell) (v : Byte) (x : Word) (b : Bool),
    ((s.hostWrite w).pending = s.pending ∧ (s.hostWrite w).params = s.params) ∧
    (let t := s.hostWrite (.cell r v)
     t.hostCell r = v ∧ (∀ q, q ≠ r → t.hostCell q = s.hostCell q) ∧ t.pc = s.pc ∧ t.sp = s.sp ∧ t.ime = s.ime ∧ t.mem = s.mem) ∧
    s.hostWrite (.pc x) = { s with pc := x } ∧ s.hostWrite (.sp x) = { s with sp := x } ∧ s.hostWrite (.ime b) = { s with ime := b } ∧
    ((s.hostWrite (.memory x v)).read x = v ∧ sameMemoryBut [x] s (s.hostWrite (.memory x v)) ∧
      ∀ q, (s.hostWrite (.memory x v)).hostCell q = s.hostCell q)

/-- The 65536 bytes of R41 have one representation. The form is the model's own (log 2). -/
def Obligations.MemoryCanonicalInvariant : Prop :=
  ∀ s t : State, memoryCanonical s → step s = .next t → memoryCanonical t

/-- R34, over all instructions. Derived: it is the spec's decision D7 and D8. -/
def Obligations.LowNibbleKept : Prop :=
  ∀ (i : Instr) (s t : State), i ≠ .popAf → exec i s = .next t → lowNibble t.f = lowNibble s.f

/-- R34: with the mask F[3:0] is 0 in every state reachable without host writes, which the spec derives itself. -/
def Obligations.MaskedFlagsInvariant : Prop :=
  ∀ s t : State, maskedFlags s → step s = .next t → maskedFlags t

/-- R76, over all instructions. Derived: the wrap of addresses is the spec's decision D4. -/
def Obligations.MemoryFrame : Prop :=
  ∀ (i : Instr) (s t : State), exec i s = .next t → sameMemoryBut (storedAddresses i s) s t ∧ (storedAddresses i s).length ≤ 2

/-- R35, over all instructions. Derived: classes (b) and (c) rest in part on the spec's decision D8 and on general knowledge. -/
def Obligations.FlagWriteClasses : Prop :=
  ∀ (i : Instr) (fl : Flag) (s t : State), exec i s = .next t → fl ∉ flagWrites i → flagBit fl t.f = flagBit fl s.f

/-- R145, over all instructions; `pcWritten` gives the target of each transfer. -/
def Obligations.NextPc : Prop :=
  ∀ (i : Instr) (s t : State), exec i s = .next t →
    t.pc = (match pcWritten i s with
      | some target => target
      | none => BitVec.ofNat 16 (s.pc.toNat + opcodeLength ((encode i).headD 0)))

/-- R146, R414. Derived: the single values are the spec's decision D12. -/
def Obligations.CycleCounts : Prop :=
  ∀ (i : Instr) (s s' : State), i ∉ unimplementedRows.map Prod.fst →
    cycles i s ∈ [4, 8, 12, 16, 20, 24] ∧
    (conditionOf i = none → cycles i s = cycles i s') ∧
    ∀ cc, conditionOf i = some cc → condition cc s = true → condition cc s' = false → cycles i s' < cycles i s

/-- R76: the bytes an instruction reads, over all instructions; what it writes follows MemoryFrame. -/
def Obligations.ReadsOnlyItsBytes : Prop :=
  ∀ (i : Instr) (s t : State) (m : Memory),
    (∀ a ∈ readAddresses i s, m.read a = s.read a) → exec i s = .next t →
      ∃ t', exec i { s with mem := m } = .next t' ∧ { t' with mem := t.mem } = t ∧ ∀ a ∈ storedAddresses i s, t'.read a = t.read a

end
end

