-- ==== Sys2Proof/Laws/Flags.lean ====
section
/-! SUPPORT. F: each flag and F[3:0] after a write of the four flags (10_state.md R33, R34). -/

namespace Sys2Proof.Machine

/-- The four flags and the low nibble of an F put together from them. -/
theorem flags_of_parts : ∀ (low : BitVec 4) (z n h c : Bool),
    let f : Byte := BitVec.ofBool z ++ BitVec.ofBool n ++ BitVec.ofBool h ++ BitVec.ofBool c ++ low
    flagZ f = z ∧ flagN f = n ∧ flagH f = h ∧ flagC f = c ∧ lowNibble f = low := by decide

@[simp] theorem flagZ_withFlags (f : Byte) (z n h c : Bool) : flagZ (withFlags f z n h c) = z :=
  (flags_of_parts (lowNibble f) z n h c).1

@[simp] theorem flagN_withFlags (f : Byte) (z n h c : Bool) : flagN (withFlags f z n h c) = n :=
  (flags_of_parts (lowNibble f) z n h c).2.1

@[simp] theorem flagH_withFlags (f : Byte) (z n h c : Bool) : flagH (withFlags f z n h c) = h :=
  (flags_of_parts (lowNibble f) z n h c).2.2.1

@[simp] theorem flagC_withFlags (f : Byte) (z n h c : Bool) : flagC (withFlags f z n h c) = c :=
  (flags_of_parts (lowNibble f) z n h c).2.2.2.1

@[simp] theorem lowNibble_withFlags (f : Byte) (z n h c : Bool) : lowNibble (withFlags f z n h c) = lowNibble f :=
  (flags_of_parts (lowNibble f) z n h c).2.2.2.2

/-- F is its four flags and its low nibble (R33). -/
theorem withFlags_own (f : Byte) : withFlags f (flagZ f) (flagN f) (flagH f) (flagC f) = f := by
  revert f
  decide

end Sys2Proof.Machine
end

