-- ==== Sys2Proof/Laws/Memory.lean ====
section
/-! SUPPORT. The memory: what a read gives after a write, without any premise, and that every memory operation keeps the canonical form. -/

namespace Sys2Proof.Machine

namespace MemoryLaws

theorem lookup_forget (m : Memory) (a b : Nat) :
    (m.forget a).lookup b = if b = a then Memory.unlisted else m.lookup b := by
  induction m with
  | nil => simp [Memory.forget, Memory.lookup]
  | cons p m ih =>
    obtain ⟨k, v⟩ := p
    by_cases hk : k = a
    · subst hk
      simp only [Memory.forget, if_true, ih, Memory.lookup]
      by_cases hb : b = k
      · simp [hb]
      · simp [hb, Ne.symm hb]
    · simp only [Memory.forget, hk, if_false, Memory.lookup, ih]
      by_cases hb : k = b
      · subst hb
        simp [hk]
      · simp [hb]

theorem mem_forget (m : Memory) (a : Nat) (p : Host.Cell) : p ∈ m.forget a ↔ p ∈ m ∧ p.1 ≠ a := by
  induction m with
  | nil => simp [Memory.forget]
  | cons q m ih =>
    obtain ⟨k, v⟩ := q
    by_cases hk : k = a
    · simp only [Memory.forget, hk, if_true, ih, List.mem_cons]
      constructor
      · exact fun h => ⟨.inr h.1, h.2⟩
      · rintro ⟨rfl | h, h2⟩
        · exact absurd rfl h2
        · exact ⟨h, h2⟩
    · simp only [Memory.forget, hk, if_false, List.mem_cons, ih]
      constructor
      · rintro (rfl | h)
        · exact ⟨.inl rfl, hk⟩
        · exact ⟨.inr h.1, h.2⟩
      · rintro ⟨rfl | h, h2⟩
        · exact .inl rfl
        · exact .inr ⟨h, h2⟩

theorem lookup_place (m : Memory) (a b : Nat) (v : Byte) (h : ∀ p ∈ m, p.1 ≠ a) :
    (m.place a v).lookup b = if b = a then v else m.lookup b := by
  induction m with
  | nil =>
    by_cases hb : b = a
    · simp [Memory.place, Memory.lookup, hb]
    · have : ¬ a = b := fun h => hb h.symm
      simp [Memory.place, Memory.lookup, hb, this]
  | cons p m ih =>
    obtain ⟨k, w⟩ := p
    have hk : k ≠ a := h (k, w) (by simp)
    have ih := ih fun p hp => h p (by simp [hp])
    by_cases hlt : a < k
    · simp only [Memory.place, hlt, if_true, Memory.lookup, eq_comm (a := a)]
    · simp only [Memory.place, hlt, if_false, Memory.lookup, ih]
      by_cases hb : k = b
      · subst hb
        simp [hk]
      · simp [hb]

theorem mem_place (m : Memory) (a : Nat) (v : Byte) (p : Host.Cell) : p ∈ m.place a v ↔ p = (a, v) ∨ p ∈ m := by
  induction m with
  | nil => simp [Memory.place]
  | cons q m ih =>
    obtain ⟨k, w⟩ := q
    by_cases hlt : a < k
    · simp [Memory.place, hlt]
    · simp only [Memory.place, hlt, if_false, List.mem_cons, ih]
      tauto

theorem pairwise_forget (m : Memory) (a : Nat) (h : m.Pairwise fun p q => p.1 < q.1) :
    (m.forget a).Pairwise fun p q => p.1 < q.1 := by
  induction m with
  | nil => simp [Memory.forget]
  | cons p m ih =>
    obtain ⟨k, v⟩ := p
    rw [List.pairwise_cons] at h
    by_cases hk : k = a
    · simpa [Memory.forget, hk] using ih h.2
    · simp only [Memory.forget, hk, if_false, List.pairwise_cons]
      exact ⟨fun q hq => h.1 q ((mem_forget m a q).1 hq).1, ih h.2⟩

theorem pairwise_place (m : Memory) (a : Nat) (v : Byte) (h : m.Pairwise fun p q => p.1 < q.1)
    (ha : ∀ p ∈ m, p.1 ≠ a) : (m.place a v).Pairwise fun p q => p.1 < q.1 := by
  induction m with
  | nil => simp [Memory.place]
  | cons p m ih =>
    obtain ⟨k, w⟩ := p
    rw [List.pairwise_cons] at h
    by_cases hlt : a < k
    · simp only [Memory.place, hlt, if_true, List.pairwise_cons]
      refine ⟨fun q hq => ?_, h⟩
      rcases List.mem_cons.1 hq with rfl | hq
      · exact hlt
      · exact hlt.trans (h.1 q hq)
    · simp only [Memory.place, hlt, if_false, List.pairwise_cons]
      refine ⟨fun q hq => ?_, ih h.2 fun q hq => ha q (by simp [hq])⟩
      have hk : k ≠ a := ha (k, w) (by simp)
      rcases (mem_place m a v q).1 hq with rfl | hq
      · show k < a
        omega
      · exact h.1 q hq

end MemoryLaws

open MemoryLaws

/-- The plain store (R72): a read gives the byte last written to its address, and a write changes no other address. -/
theorem read_write (m : Memory) (a b : Word) (v : Byte) : (m.write a v).read b = if b = a then v else m.read b := by
  have hab : (b.toNat = a.toNat) = (b = a) := propext BitVec.toNat_inj
  unfold Memory.write Memory.read
  by_cases hv : v = Memory.unlisted
  · rw [if_pos hv, lookup_forget]
    simp only [hab, hv]
  · rw [if_neg hv, lookup_place _ _ _ _ fun p hp => ((mem_forget m a.toNat p).1 hp).2, lookup_forget]
    by_cases hb : b = a <;> simp [hab, hb]

/-- A write keeps the canonical form. -/
theorem wf_write (m : Memory) (a : Word) (v : Byte) (h : m.wf) : (m.write a v).wf := by
  obtain ⟨hs, hv⟩ := h
  have hf : ∀ p ∈ m.forget a.toNat, p.1 < 65536 ∧ p.2 ≠ Memory.unlisted := fun p hp => hv p ((mem_forget _ _ p).1 hp).1
  unfold Memory.write
  split
  · exact ⟨pairwise_forget m _ hs, hf⟩
  · rename_i hne
    refine ⟨pairwise_place _ _ _ (pairwise_forget m _ hs) fun p hp => ((mem_forget _ _ p).1 hp).2, fun p hp => ?_⟩
    rcases (mem_place _ _ _ p).1 hp with rfl | hp
    · exact ⟨a.isLt, hne⟩
    · exact hf p hp

/-- Loading bytes keeps the canonical form. -/
theorem wf_load (bytes : List Byte) (m : Memory) (a : Word) (h : m.wf) : (m.load a bytes).wf := by
  induction bytes generalizing m a with
  | nil => exact h
  | cons v vs ih => exact ih _ _ (wf_write m a v h)

/-- The memory that lists nothing is canonical. -/
theorem wf_nil : Memory.wf [] := by simp [Memory.wf]

/-- What a write of the state leaves to be read (R72). -/
@[simp] theorem write_read (s : State) (a b : Word) (v : Byte) : (s.write a v).read b = if b = a then v else s.read b :=
  read_write s.mem a b v

/-- The bytes after a push (R360): low at the new sp, high above it, every other as it was. -/
theorem push16_read (s : State) (v b : Word) :
    (s.push16 v).read b = if b = s.sp - 2 then loByte v else if b = s.sp - 1 then hiByte v else s.read b := by
  have h : s.sp - 2 + 1 = s.sp - 1 := by bv_omega
  show (((({ s with sp := s.sp - 2 } : State).write (s.sp - 2 + 1) (hiByte v)).write (s.sp - 2) (loByte v)).read b) = _
  rw [write_read, write_read, h]
  rfl

/-- The bytes after a two-byte write (R9): low at the address, high at the next, every other as it was. -/
theorem write16_read (s : State) (x v b : Word) :
    (s.write16 x v).read b = if b = x + 1 then hiByte v else if b = x then loByte v else s.read b := by
  show (((s.write x (loByte v)).write (x + 1) (hiByte v)).read b) = _
  rw [write_read, write_read]

/-- A push and a two-byte write keep the canonical form. -/
theorem wf_push16 (s : State) (v : Word) (h : s.mem.wf) : (s.push16 v).mem.wf := wf_write _ _ _ (wf_write _ _ _ h)

theorem wf_write16 (s : State) (x v : Word) (h : s.mem.wf) : (s.write16 x v).mem.wf := wf_write _ _ _ (wf_write _ _ _ h)

end Sys2Proof.Machine
end

