-- ==== Sys2Proof/Laws/State.lean ====
section
/-! SUPPORT. What each update of the state leaves of each field and view, one lemma per field per update, so that no later proof unfolds a record update. -/

namespace Sys2Proof.Machine

/-! ### setReg8 -/

@[simp] theorem setReg8_f (s : State) (r : Reg8) (v : Byte) : (s.setReg8 r v).f = s.f := by cases r <;> rfl
@[simp] theorem setReg8_sp (s : State) (r : Reg8) (v : Byte) : (s.setReg8 r v).sp = s.sp := by cases r <;> rfl
@[simp] theorem setReg8_pc (s : State) (r : Reg8) (v : Byte) : (s.setReg8 r v).pc = s.pc := by cases r <;> rfl
@[simp] theorem setReg8_ime (s : State) (r : Reg8) (v : Byte) : (s.setReg8 r v).ime = s.ime := by cases r <;> rfl
@[simp] theorem setReg8_pending (s : State) (r : Reg8) (v : Byte) : (s.setReg8 r v).pending = s.pending := by cases r <;> rfl
@[simp] theorem setReg8_mem (s : State) (r : Reg8) (v : Byte) : (s.setReg8 r v).mem = s.mem := by cases r <;> rfl
@[simp] theorem setReg8_params (s : State) (r : Reg8) (v : Byte) : (s.setReg8 r v).params = s.params := by cases r <;> rfl
@[simp] theorem setReg8_read (s : State) (r : Reg8) (v : Byte) (x : Word) : (s.setReg8 r v).read x = s.read x := by simp [State.read]

/-! ### setReg16 -/

@[simp] theorem setReg16_a (s : State) (rr : Reg16) (v : Word) : (s.setReg16 rr v).a = s.a := by cases rr <;> rfl
@[simp] theorem setReg16_f (s : State) (rr : Reg16) (v : Word) : (s.setReg16 rr v).f = s.f := by cases rr <;> rfl
@[simp] theorem setReg16_pc (s : State) (rr : Reg16) (v : Word) : (s.setReg16 rr v).pc = s.pc := by cases rr <;> rfl
@[simp] theorem setReg16_ime (s : State) (rr : Reg16) (v : Word) : (s.setReg16 rr v).ime = s.ime := by cases rr <;> rfl
@[simp] theorem setReg16_pending (s : State) (rr : Reg16) (v : Word) : (s.setReg16 rr v).pending = s.pending := by cases rr <;> rfl
@[simp] theorem setReg16_mem (s : State) (rr : Reg16) (v : Word) : (s.setReg16 rr v).mem = s.mem := by cases rr <;> rfl
@[simp] theorem setReg16_params (s : State) (rr : Reg16) (v : Word) : (s.setReg16 rr v).params = s.params := by cases rr <;> rfl
@[simp] theorem setReg16_read (s : State) (rr : Reg16) (v : Word) (x : Word) : (s.setReg16 rr v).read x = s.read x := by simp [State.read]

/-! ### setStackPair -/

@[simp] theorem setStackPair_sp (s : State) (rr : StackPair) (v : Word) : (s.setStackPair rr v).sp = s.sp := by cases rr <;> rfl
@[simp] theorem setStackPair_pc (s : State) (rr : StackPair) (v : Word) : (s.setStackPair rr v).pc = s.pc := by cases rr <;> rfl
@[simp] theorem setStackPair_ime (s : State) (rr : StackPair) (v : Word) : (s.setStackPair rr v).ime = s.ime := by cases rr <;> rfl
@[simp] theorem setStackPair_pending (s : State) (rr : StackPair) (v : Word) : (s.setStackPair rr v).pending = s.pending := by cases rr <;> rfl
@[simp] theorem setStackPair_mem (s : State) (rr : StackPair) (v : Word) : (s.setStackPair rr v).mem = s.mem := by cases rr <;> rfl
@[simp] theorem setStackPair_params (s : State) (rr : StackPair) (v : Word) : (s.setStackPair rr v).params = s.params := by cases rr <;> rfl
@[simp] theorem setStackPair_read (s : State) (rr : StackPair) (v : Word) (x : Word) : (s.setStackPair rr v).read x = s.read x := by simp [State.read]

/-! ### setOperand -/

@[simp] theorem setOperand_f (s : State) (o : Operand8) (v : Byte) : (s.setOperand o v).f = s.f := by
  cases o with
  | reg r => cases r <;> rfl
  | atHl => rfl
@[simp] theorem setOperand_sp (s : State) (o : Operand8) (v : Byte) : (s.setOperand o v).sp = s.sp := by
  cases o with
  | reg r => cases r <;> rfl
  | atHl => rfl
@[simp] theorem setOperand_pc (s : State) (o : Operand8) (v : Byte) : (s.setOperand o v).pc = s.pc := by
  cases o with
  | reg r => cases r <;> rfl
  | atHl => rfl
@[simp] theorem setOperand_ime (s : State) (o : Operand8) (v : Byte) : (s.setOperand o v).ime = s.ime := by
  cases o with
  | reg r => cases r <;> rfl
  | atHl => rfl
@[simp] theorem setOperand_pending (s : State) (o : Operand8) (v : Byte) : (s.setOperand o v).pending = s.pending := by
  cases o with
  | reg r => cases r <;> rfl
  | atHl => rfl
@[simp] theorem setOperand_params (s : State) (o : Operand8) (v : Byte) : (s.setOperand o v).params = s.params := by
  cases o with
  | reg r => cases r <;> rfl
  | atHl => rfl

/-! ### setFlags -/

@[simp] theorem setFlags_a (s : State) (z n h c : Bool) : (s.setFlags z n h c).a = s.a := rfl
@[simp] theorem setFlags_b (s : State) (z n h c : Bool) : (s.setFlags z n h c).b = s.b := rfl
@[simp] theorem setFlags_c (s : State) (z n h c : Bool) : (s.setFlags z n h c).c = s.c := rfl
@[simp] theorem setFlags_d (s : State) (z n h c : Bool) : (s.setFlags z n h c).d = s.d := rfl
@[simp] theorem setFlags_e (s : State) (z n h c : Bool) : (s.setFlags z n h c).e = s.e := rfl
@[simp] theorem setFlags_h (s : State) (z n h c : Bool) : (s.setFlags z n h c).h = s.h := rfl
@[simp] theorem setFlags_l (s : State) (z n h c : Bool) : (s.setFlags z n h c).l = s.l := rfl
@[simp] theorem setFlags_sp (s : State) (z n h c : Bool) : (s.setFlags z n h c).sp = s.sp := rfl
@[simp] theorem setFlags_pc (s : State) (z n h c : Bool) : (s.setFlags z n h c).pc = s.pc := rfl
@[simp] theorem setFlags_ime (s : State) (z n h c : Bool) : (s.setFlags z n h c).ime = s.ime := rfl
@[simp] theorem setFlags_pending (s : State) (z n h c : Bool) : (s.setFlags z n h c).pending = s.pending := rfl
@[simp] theorem setFlags_mem (s : State) (z n h c : Bool) : (s.setFlags z n h c).mem = s.mem := rfl
@[simp] theorem setFlags_params (s : State) (z n h c : Bool) : (s.setFlags z n h c).params = s.params := rfl
@[simp] theorem setFlags_reg8 (s : State) (z n h c : Bool) (q : Reg8) : (s.setFlags z n h c).reg8 q = s.reg8 q := by cases q <;> simp [State.reg8]
@[simp] theorem setFlags_reg16 (s : State) (z n h c : Bool) (q : Reg16) : (s.setFlags z n h c).reg16 q = s.reg16 q := by cases q <;> simp [State.reg16]
@[simp] theorem setFlags_hl (s : State) (z n h c : Bool) : (s.setFlags z n h c).hl = s.hl := by simp [State.hl, State.reg16]
@[simp] theorem setFlags_read (s : State) (z n h c : Bool) (x : Word) : (s.setFlags z n h c).read x = s.read x := by simp [State.read]

/-! ### advance -/

@[simp] theorem advance_a (s : State) (k : Nat) : (s.advance k).a = s.a := rfl
@[simp] theorem advance_f (s : State) (k : Nat) : (s.advance k).f = s.f := rfl
@[simp] theorem advance_b (s : State) (k : Nat) : (s.advance k).b = s.b := rfl
@[simp] theorem advance_c (s : State) (k : Nat) : (s.advance k).c = s.c := rfl
@[simp] theorem advance_d (s : State) (k : Nat) : (s.advance k).d = s.d := rfl
@[simp] theorem advance_e (s : State) (k : Nat) : (s.advance k).e = s.e := rfl
@[simp] theorem advance_h (s : State) (k : Nat) : (s.advance k).h = s.h := rfl
@[simp] theorem advance_l (s : State) (k : Nat) : (s.advance k).l = s.l := rfl
@[simp] theorem advance_sp (s : State) (k : Nat) : (s.advance k).sp = s.sp := rfl
@[simp] theorem advance_ime (s : State) (k : Nat) : (s.advance k).ime = s.ime := rfl
@[simp] theorem advance_pending (s : State) (k : Nat) : (s.advance k).pending = s.pending := rfl
@[simp] theorem advance_mem (s : State) (k : Nat) : (s.advance k).mem = s.mem := rfl
@[simp] theorem advance_params (s : State) (k : Nat) : (s.advance k).params = s.params := rfl
@[simp] theorem advance_reg8 (s : State) (k : Nat) (q : Reg8) : (s.advance k).reg8 q = s.reg8 q := by cases q <;> simp [State.reg8]
@[simp] theorem advance_reg16 (s : State) (k : Nat) (q : Reg16) : (s.advance k).reg16 q = s.reg16 q := by cases q <;> simp [State.reg16]
@[simp] theorem advance_hl (s : State) (k : Nat) : (s.advance k).hl = s.hl := by simp [State.hl, State.reg16]
@[simp] theorem advance_read (s : State) (k : Nat) (x : Word) : (s.advance k).read x = s.read x := by simp [State.read]

/-! ### jump -/

@[simp] theorem jump_a (s : State) (t : Word) : (s.jump t).a = s.a := rfl
@[simp] theorem jump_f (s : State) (t : Word) : (s.jump t).f = s.f := rfl
@[simp] theorem jump_b (s : State) (t : Word) : (s.jump t).b = s.b := rfl
@[simp] theorem jump_c (s : State) (t : Word) : (s.jump t).c = s.c := rfl
@[simp] theorem jump_d (s : State) (t : Word) : (s.jump t).d = s.d := rfl
@[simp] theorem jump_e (s : State) (t : Word) : (s.jump t).e = s.e := rfl
@[simp] theorem jump_h (s : State) (t : Word) : (s.jump t).h = s.h := rfl
@[simp] theorem jump_l (s : State) (t : Word) : (s.jump t).l = s.l := rfl
@[simp] theorem jump_sp (s : State) (t : Word) : (s.jump t).sp = s.sp := rfl
@[simp] theorem jump_ime (s : State) (t : Word) : (s.jump t).ime = s.ime := rfl
@[simp] theorem jump_pending (s : State) (t : Word) : (s.jump t).pending = s.pending := rfl
@[simp] theorem jump_mem (s : State) (t : Word) : (s.jump t).mem = s.mem := rfl
@[simp] theorem jump_params (s : State) (t : Word) : (s.jump t).params = s.params := rfl
@[simp] theorem jump_reg8 (s : State) (t : Word) (q : Reg8) : (s.jump t).reg8 q = s.reg8 q := by cases q <;> simp [State.reg8]
@[simp] theorem jump_reg16 (s : State) (t : Word) (q : Reg16) : (s.jump t).reg16 q = s.reg16 q := by cases q <;> simp [State.reg16]
@[simp] theorem jump_hl (s : State) (t : Word) : (s.jump t).hl = s.hl := by simp [State.hl, State.reg16]
@[simp] theorem jump_read (s : State) (t : Word) (x : Word) : (s.jump t).read x = s.read x := by simp [State.read]

/-! ### write -/

@[simp] theorem write_a (s : State) (x : Word) (v : Byte) : (s.write x v).a = s.a := rfl
@[simp] theorem write_f (s : State) (x : Word) (v : Byte) : (s.write x v).f = s.f := rfl
@[simp] theorem write_b (s : State) (x : Word) (v : Byte) : (s.write x v).b = s.b := rfl
@[simp] theorem write_c (s : State) (x : Word) (v : Byte) : (s.write x v).c = s.c := rfl
@[simp] theorem write_d (s : State) (x : Word) (v : Byte) : (s.write x v).d = s.d := rfl
@[simp] theorem write_e (s : State) (x : Word) (v : Byte) : (s.write x v).e = s.e := rfl
@[simp] theorem write_h (s : State) (x : Word) (v : Byte) : (s.write x v).h = s.h := rfl
@[simp] theorem write_l (s : State) (x : Word) (v : Byte) : (s.write x v).l = s.l := rfl
@[simp] theorem write_sp (s : State) (x : Word) (v : Byte) : (s.write x v).sp = s.sp := rfl
@[simp] theorem write_pc (s : State) (x : Word) (v : Byte) : (s.write x v).pc = s.pc := rfl
@[simp] theorem write_ime (s : State) (x : Word) (v : Byte) : (s.write x v).ime = s.ime := rfl
@[simp] theorem write_pending (s : State) (x : Word) (v : Byte) : (s.write x v).pending = s.pending := rfl
@[simp] theorem write_params (s : State) (x : Word) (v : Byte) : (s.write x v).params = s.params := rfl
@[simp] theorem write_reg8 (s : State) (x : Word) (v : Byte) (q : Reg8) : (s.write x v).reg8 q = s.reg8 q := by cases q <;> simp [State.reg8]
@[simp] theorem write_reg16 (s : State) (x : Word) (v : Byte) (q : Reg16) : (s.write x v).reg16 q = s.reg16 q := by cases q <;> simp [State.reg16]
@[simp] theorem write_hl (s : State) (x : Word) (v : Byte) : (s.write x v).hl = s.hl := by simp [State.hl, State.reg16]

/-! ### write16 -/

@[simp] theorem write16_a (s : State) (x : Word) (v : Word) : (s.write16 x v).a = s.a := rfl
@[simp] theorem write16_f (s : State) (x : Word) (v : Word) : (s.write16 x v).f = s.f := rfl
@[simp] theorem write16_b (s : State) (x : Word) (v : Word) : (s.write16 x v).b = s.b := rfl
@[simp] theorem write16_c (s : State) (x : Word) (v : Word) : (s.write16 x v).c = s.c := rfl
@[simp] theorem write16_d (s : State) (x : Word) (v : Word) : (s.write16 x v).d = s.d := rfl
@[simp] theorem write16_e (s : State) (x : Word) (v : Word) : (s.write16 x v).e = s.e := rfl
@[simp] theorem write16_h (s : State) (x : Word) (v : Word) : (s.write16 x v).h = s.h := rfl
@[simp] theorem write16_l (s : State) (x : Word) (v : Word) : (s.write16 x v).l = s.l := rfl
@[simp] theorem write16_sp (s : State) (x : Word) (v : Word) : (s.write16 x v).sp = s.sp := rfl
@[simp] theorem write16_pc (s : State) (x : Word) (v : Word) : (s.write16 x v).pc = s.pc := rfl
@[simp] theorem write16_ime (s : State) (x : Word) (v : Word) : (s.write16 x v).ime = s.ime := rfl
@[simp] theorem write16_pending (s : State) (x : Word) (v : Word) : (s.write16 x v).pending = s.pending := rfl
@[simp] theorem write16_params (s : State) (x : Word) (v : Word) : (s.write16 x v).params = s.params := rfl
@[simp] theorem write16_reg8 (s : State) (x : Word) (v : Word) (q : Reg8) : (s.write16 x v).reg8 q = s.reg8 q := by cases q <;> simp [State.reg8]
@[simp] theorem write16_reg16 (s : State) (x : Word) (v : Word) (q : Reg16) : (s.write16 x v).reg16 q = s.reg16 q := by cases q <;> simp [State.reg16]
@[simp] theorem write16_hl (s : State) (x : Word) (v : Word) : (s.write16 x v).hl = s.hl := by simp [State.hl, State.reg16]

/-! ### push16 -/

@[simp] theorem push16_a (s : State) (v : Word) : (s.push16 v).a = s.a := rfl
@[simp] theorem push16_f (s : State) (v : Word) : (s.push16 v).f = s.f := rfl
@[simp] theorem push16_b (s : State) (v : Word) : (s.push16 v).b = s.b := rfl
@[simp] theorem push16_c (s : State) (v : Word) : (s.push16 v).c = s.c := rfl
@[simp] theorem push16_d (s : State) (v : Word) : (s.push16 v).d = s.d := rfl
@[simp] theorem push16_e (s : State) (v : Word) : (s.push16 v).e = s.e := rfl
@[simp] theorem push16_h (s : State) (v : Word) : (s.push16 v).h = s.h := rfl
@[simp] theorem push16_l (s : State) (v : Word) : (s.push16 v).l = s.l := rfl
@[simp] theorem push16_pc (s : State) (v : Word) : (s.push16 v).pc = s.pc := rfl
@[simp] theorem push16_ime (s : State) (v : Word) : (s.push16 v).ime = s.ime := rfl
@[simp] theorem push16_pending (s : State) (v : Word) : (s.push16 v).pending = s.pending := rfl
@[simp] theorem push16_params (s : State) (v : Word) : (s.push16 v).params = s.params := rfl
@[simp] theorem push16_reg8 (s : State) (v : Word) (q : Reg8) : (s.push16 v).reg8 q = s.reg8 q := by cases q <;> simp [State.reg8]
@[simp] theorem push16_hl (s : State) (v : Word) : (s.push16 v).hl = s.hl := by simp [State.hl, State.reg16]

/-! ### drop16 -/

@[simp] theorem drop16_a (s : State) : (s.drop16).a = s.a := rfl
@[simp] theorem drop16_f (s : State) : (s.drop16).f = s.f := rfl
@[simp] theorem drop16_b (s : State) : (s.drop16).b = s.b := rfl
@[simp] theorem drop16_c (s : State) : (s.drop16).c = s.c := rfl
@[simp] theorem drop16_d (s : State) : (s.drop16).d = s.d := rfl
@[simp] theorem drop16_e (s : State) : (s.drop16).e = s.e := rfl
@[simp] theorem drop16_h (s : State) : (s.drop16).h = s.h := rfl
@[simp] theorem drop16_l (s : State) : (s.drop16).l = s.l := rfl
@[simp] theorem drop16_pc (s : State) : (s.drop16).pc = s.pc := rfl
@[simp] theorem drop16_ime (s : State) : (s.drop16).ime = s.ime := rfl
@[simp] theorem drop16_pending (s : State) : (s.drop16).pending = s.pending := rfl
@[simp] theorem drop16_mem (s : State) : (s.drop16).mem = s.mem := rfl
@[simp] theorem drop16_params (s : State) : (s.drop16).params = s.params := rfl
@[simp] theorem drop16_reg8 (s : State)  (q : Reg8) : (s.drop16).reg8 q = s.reg8 q := by cases q <;> simp [State.reg8]
@[simp] theorem drop16_hl (s : State)  : (s.drop16).hl = s.hl := by simp [State.hl, State.reg16]
@[simp] theorem drop16_read (s : State)  (x : Word) : (s.drop16).read x = s.read x := by simp [State.read]

/-! ### enableInterrupts -/

@[simp] theorem enableInterrupts_a (s : State) : (s.enableInterrupts).a = s.a := rfl
@[simp] theorem enableInterrupts_f (s : State) : (s.enableInterrupts).f = s.f := rfl
@[simp] theorem enableInterrupts_b (s : State) : (s.enableInterrupts).b = s.b := rfl
@[simp] theorem enableInterrupts_c (s : State) : (s.enableInterrupts).c = s.c := rfl
@[simp] theorem enableInterrupts_d (s : State) : (s.enableInterrupts).d = s.d := rfl
@[simp] theorem enableInterrupts_e (s : State) : (s.enableInterrupts).e = s.e := rfl
@[simp] theorem enableInterrupts_h (s : State) : (s.enableInterrupts).h = s.h := rfl
@[simp] theorem enableInterrupts_l (s : State) : (s.enableInterrupts).l = s.l := rfl
@[simp] theorem enableInterrupts_sp (s : State) : (s.enableInterrupts).sp = s.sp := rfl
@[simp] theorem enableInterrupts_pc (s : State) : (s.enableInterrupts).pc = s.pc := rfl
@[simp] theorem enableInterrupts_pending (s : State) : (s.enableInterrupts).pending = s.pending := rfl
@[simp] theorem enableInterrupts_mem (s : State) : (s.enableInterrupts).mem = s.mem := rfl
@[simp] theorem enableInterrupts_params (s : State) : (s.enableInterrupts).params = s.params := rfl
@[simp] theorem enableInterrupts_reg8 (s : State)  (q : Reg8) : (s.enableInterrupts).reg8 q = s.reg8 q := by cases q <;> simp [State.reg8]
@[simp] theorem enableInterrupts_reg16 (s : State)  (q : Reg16) : (s.enableInterrupts).reg16 q = s.reg16 q := by cases q <;> simp [State.reg16]
@[simp] theorem enableInterrupts_hl (s : State)  : (s.enableInterrupts).hl = s.hl := by simp [State.hl, State.reg16]
@[simp] theorem enableInterrupts_read (s : State)  (x : Word) : (s.enableInterrupts).read x = s.read x := by simp [State.read]

/-! ### applyPendingEdge -/

@[simp] theorem applyPendingEdge_a (s : State) : (s.applyPendingEdge).a = s.a := by
  unfold State.applyPendingEdge; cases s.pending <;> rfl
@[simp] theorem applyPendingEdge_f (s : State) : (s.applyPendingEdge).f = s.f := by
  unfold State.applyPendingEdge; cases s.pending <;> rfl
@[simp] theorem applyPendingEdge_b (s : State) : (s.applyPendingEdge).b = s.b := by
  unfold State.applyPendingEdge; cases s.pending <;> rfl
@[simp] theorem applyPendingEdge_c (s : State) : (s.applyPendingEdge).c = s.c := by
  unfold State.applyPendingEdge; cases s.pending <;> rfl
@[simp] theorem applyPendingEdge_d (s : State) : (s.applyPendingEdge).d = s.d := by
  unfold State.applyPendingEdge; cases s.pending <;> rfl
@[simp] theorem applyPendingEdge_e (s : State) : (s.applyPendingEdge).e = s.e := by
  unfold State.applyPendingEdge; cases s.pending <;> rfl
@[simp] theorem applyPendingEdge_h (s : State) : (s.applyPendingEdge).h = s.h := by
  unfold State.applyPendingEdge; cases s.pending <;> rfl
@[simp] theorem applyPendingEdge_l (s : State) : (s.applyPendingEdge).l = s.l := by
  unfold State.applyPendingEdge; cases s.pending <;> rfl
@[simp] theorem applyPendingEdge_sp (s : State) : (s.applyPendingEdge).sp = s.sp := by
  unfold State.applyPendingEdge; cases s.pending <;> rfl
@[simp] theorem applyPendingEdge_pc (s : State) : (s.applyPendingEdge).pc = s.pc := by
  unfold State.applyPendingEdge; cases s.pending <;> rfl
@[simp] theorem applyPendingEdge_mem (s : State) : (s.applyPendingEdge).mem = s.mem := by
  unfold State.applyPendingEdge; cases s.pending <;> rfl
@[simp] theorem applyPendingEdge_params (s : State) : (s.applyPendingEdge).params = s.params := by
  unfold State.applyPendingEdge; cases s.pending <;> rfl
@[simp] theorem applyPendingEdge_reg8 (s : State)  (q : Reg8) : (s.applyPendingEdge).reg8 q = s.reg8 q := by cases q <;> simp [State.reg8]
@[simp] theorem applyPendingEdge_reg16 (s : State)  (q : Reg16) : (s.applyPendingEdge).reg16 q = s.reg16 q := by cases q <;> simp [State.reg16]
@[simp] theorem applyPendingEdge_hl (s : State)  : (s.applyPendingEdge).hl = s.hl := by simp [State.hl, State.reg16]
@[simp] theorem applyPendingEdge_read (s : State)  (x : Word) : (s.applyPendingEdge).read x = s.read x := by simp [State.read]

/-! ### The written field of each update -/

@[simp] theorem setFlags_f (s : State) (z n h c : Bool) : (s.setFlags z n h c).f = withFlags s.f z n h c := rfl
@[simp] theorem advance_pc (s : State) (k : Nat) : (s.advance k).pc = s.pc + BitVec.ofNat 16 k := rfl
@[simp] theorem jump_pc (s : State) (t : Word) : (s.jump t).pc = t := rfl
@[simp] theorem write_mem (s : State) (x : Word) (v : Byte) : (s.write x v).mem = s.mem.write x v := rfl
@[simp] theorem push16_sp (s : State) (v : Word) : (s.push16 v).sp = s.sp - 2 := rfl
@[simp] theorem drop16_sp (s : State) : s.drop16.sp = s.sp + 2 := rfl
@[simp] theorem enableInterrupts_ime (s : State) : s.enableInterrupts.ime = true := rfl
@[simp] theorem setReg16_sp (s : State) (v : Word) : (s.setReg16 .sp v).sp = v := rfl

@[simp] theorem setReg8_a_a (s : State) (v : Byte) : (s.setReg8 .a v).a = v := rfl

/-- Only the pair AF holds F (R31). -/
theorem setStackPair_f (s : State) (rr : StackPair) (v : Word) (h : rr ≠ .af) : (s.setStackPair rr v).f = s.f := by
  cases rr <;> first | rfl | exact absurd rfl h

/-- A register just written holds the value; every other holds what it held. -/
theorem reg8_setReg8 (s : State) (r q : Reg8) (v : Byte) : (s.setReg8 r v).reg8 q = if q = r then v else s.reg8 q := by
  cases r <;> cases q <;> rfl

@[simp] theorem reg8_setReg8_same (s : State) (r : Reg8) (v : Byte) : (s.setReg8 r v).reg8 r = v := by
  simp [reg8_setReg8]

/-- A pair just written reads back (R31, R32). -/
@[simp] theorem reg16_setReg16_same (s : State) (rr : Reg16) (v : Word) : (s.setReg16 rr v).reg16 rr = v := by
  cases rr <;> first | exact joinBytes_bytes v | rfl

/-- The registers a pair does not contain (R32). -/
theorem reg8_setReg16_hl (s : State) (v : Word) (q : Reg8) (hh : q ≠ .h) (hl : q ≠ .l) :
    (s.setReg16 .hl v).reg8 q = s.reg8 q := by
  cases q <;> first | rfl | exact absurd rfl hh | exact absurd rfl hl

/-- After the edge is applied none is pending (R144). -/
@[simp] theorem applyPendingEdge_pending (s : State) : s.applyPendingEdge.pending = .idle := by
  unfold State.applyPendingEdge
  cases h : s.pending <;> simp [h]

/-- IME after the edge (R144). -/
theorem applyPendingEdge_ime (s : State) :
    s.applyPendingEdge.ime = match s.pending with | .idle => s.ime | .pendingEnable => true | .pendingDisable => false := by
  unfold State.applyPendingEdge
  cases h : s.pending <;> rfl

end Sys2Proof.Machine
end

