-- ==== Sys2Proof/Laws/Meanings.lean ====
section
/-! SUPPORT. One lemma for each shared operation and each shared meaning: everything it does and everything it leaves, in the terms of Safety.lean. Every meaning of Machine/
is one call of a shared meaning, so a proof cites its lemma here and unfolds nothing. -/

namespace Sys2Proof.Machine

/-! ## Parts -/

/-- pc after an advance of a state whose pc is still that of `s` (R145). -/
theorem advance_pcAdvanced (s u : State) (k : Nat) (h : u.pc = s.pc) : pcAdvanced k s (u.advance k) := by
  simp [pcAdvanced, h, BitVec.toNat_add]

/-- The four flags and F[3:0] of a state whose F is that of a flag write (R34). -/
theorem flagsAre_of_f {s t : State} {z n h c : Bool} (hf : t.f = withFlags s.f z n h c) : flagsAre s t z n h c := by
  simp [flagsAre, hf]

/-- An 8-bit operand written, and pc and F left. -/
theorem setOperand_written (s : State) (o : Operand8) (v : Byte) : operandWritten o v s (s.setOperand o v) := by
  cases o with
  | reg r => exact ⟨reg8_setReg8_same s r v, fun q hq => by simp_all [State.setOperand, reg8_setReg8], fun a _ => by simp [State.setOperand]⟩
  | atHl => exact ⟨by simp [State.setOperand, State.hl], fun q _ => by simp [State.setOperand],
      fun a ha => by simp_all [State.setOperand, State.hl]⟩

/-- A pair written (R32). -/
theorem setReg16_written (s : State) (rr : Reg16) (v : Word) : pairWritten rr v s (s.setReg16 rr v) := by
  cases rr
  case sp => exact ⟨rfl, fun q _ => by cases q <;> rfl⟩
  all_goals exact ⟨rfl, rfl, fun q hq => by cases q <;> first | rfl | simp at hq, rfl⟩

/-- `operandWritten` speaks of registers and memory only. -/
theorem operandWritten_congr {o : Operand8} {v : Byte} {s t u : State} (h : operandWritten o v s t) (hr : ∀ r, u.reg8 r = t.reg8 r)
    (hm : ∀ a, u.read a = t.read a) : operandWritten o v s u := by
  cases o with
  | reg r => exact ⟨(hr r).trans h.1, fun q hq => (hr q).trans (h.2.1 q hq), fun a ha => (hm a).trans (h.2.2 a ha)⟩
  | atHl => exact ⟨(hm _).trans h.1, fun q hq => (hr q).trans (h.2.1 q hq), fun a ha => (hm a).trans (h.2.2 a ha)⟩

/-- `pairWritten` speaks of registers and sp only. -/
theorem pairWritten_congr {rr : Reg16} {v : Word} {s t u : State} (h : pairWritten rr v s t) (hr : ∀ r, u.reg8 r = t.reg8 r)
    (hsp : u.sp = t.sp) : pairWritten rr v s u := by
  cases rr
  case sp => exact ⟨hsp.trans h.1, fun q hq => (hr q).trans (h.2 q hq)⟩
  case bc => exact ⟨(hr .b).trans h.1, (hr .c).trans h.2.1, fun q hq => (hr q).trans (h.2.2.1 q hq), hsp.trans h.2.2.2⟩
  case de => exact ⟨(hr .d).trans h.1, (hr .e).trans h.2.1, fun q hq => (hr q).trans (h.2.2.1 q hq), hsp.trans h.2.2.2⟩
  case hl => exact ⟨(hr .h).trans h.1, (hr .l).trans h.2.1, fun q hq => (hr q).trans (h.2.2.1 q hq), hsp.trans h.2.2.2⟩

/-- The registers after HL is written. -/
theorem setReg16_hl_regs (s : State) (v : Word) : sameRegsBut [.h, .l] s (s.setReg16 .hl v) := (setReg16_written s .hl v).2.2.1

/-! ## System -/

theorem nop_spec (s : State) : completes (nop s) fun t => sameButPc s t ∧ pcAdvanced 1 s t :=
  ⟨_, rfl, ⟨fun q _ => by simp, rfl, ⟨rfl, rfl, rfl, rfl⟩, fun _ _ => by simp⟩, advance_pcAdvanced s s 1 rfl⟩

theorem schedule_spec (edge : Pending) (s : State) :
    completes (schedule edge s) fun t => t.pending = edge ∧ sameButPc { s with pending := edge } t ∧ pcAdvanced 1 s t :=
  ⟨_, rfl, rfl, ⟨fun q _ => by cases q <;> rfl, rfl, ⟨rfl, rfl, rfl, rfl⟩, fun _ _ => rfl⟩, advance_pcAdvanced s _ 1 rfl⟩

theorem raiseUnimplemented_spec (op : Byte) (s : State) : raiseUnimplemented op s = .fault (.unimplementedOpcode op s.pc) := rfl

/-! ## Loads -/

/-- A register written and pc advanced. -/
theorem setReg8_loaded (s : State) (r : Reg8) (v : Byte) (k : Nat) : loaded r v k s ((s.setReg8 r v).advance k) :=
  ⟨by simp, fun q hq => by simp_all [reg8_setReg8], by simp, ⟨by simp, by simp, by simp, by simp⟩, fun a _ => by simp,
    advance_pcAdvanced s _ k (by simp)⟩

theorem ldRegReg_spec (r r' : Reg8) (s : State) : completes (ldRegReg r r' s) (loaded r (s.reg8 r') 1 s) := ⟨_, rfl, setReg8_loaded ..⟩

theorem ldRegImm_spec (r : Reg8) (n : Byte) (s : State) : completes (ldRegImm r n s) (loaded r n 2 s) := ⟨_, rfl, setReg8_loaded ..⟩

theorem ldRegMem_spec (r : Reg8) (x : Word) (k : Nat) (s : State) : completes (ldRegMem r x k s) (loaded r (s.read x) k s) :=
  ⟨_, rfl, setReg8_loaded ..⟩

theorem ldMem_spec (x : Word) (v : Byte) (k : Nat) (s : State) : completes (ldMem x v k s) (stored x v k s) :=
  ⟨_, rfl, by simp, fun a ha => by simp_all, fun q _ => by simp, rfl, ⟨rfl, rfl, rfl, rfl⟩, advance_pcAdvanced s _ k rfl⟩

theorem ldAHlMove_spec (delta : Word) (s : State) :
    completes (ldAHlMove delta s) fun t => t.a = s.read (s.reg16 .hl) ∧ t.reg16 .hl = s.reg16 .hl + delta ∧ sameRegsBut [.a, .h, .l] s t ∧
      t.f = s.f ∧ sameControl s t ∧ sameMemoryBut [] s t ∧ pcAdvanced 1 s t :=
  ⟨_, rfl, rfl, by simp [State.hl], fun q hq => by cases q <;> first | rfl | simp at hq, rfl, ⟨rfl, rfl, rfl, rfl⟩, fun _ _ => rfl,
    advance_pcAdvanced s _ 1 rfl⟩

theorem ldHlMoveA_spec (delta : Word) (s : State) :
    completes (ldHlMoveA delta s) fun t => t.read (s.reg16 .hl) = s.a ∧ t.reg16 .hl = s.reg16 .hl + delta ∧ sameRegsBut [.h, .l] s t ∧
      t.f = s.f ∧ sameControl s t ∧ sameMemoryBut [s.reg16 .hl] s t ∧ pcAdvanced 1 s t :=
  ⟨_, rfl, by simp [State.hl], by simp [State.hl], fun q hq => by cases q <;> first | rfl | simp at hq, rfl, ⟨rfl, rfl, rfl, rfl⟩,
    fun a ha => by simp_all [State.hl], advance_pcAdvanced s _ 1 rfl⟩

theorem ldPairImm_spec (rr : Reg16) (nn : Word) (s : State) :
    completes (ldPairImm rr nn s) fun t => pairWritten rr nn s t ∧ t.f = s.f ∧ sameInterrupts s t ∧ sameMemoryBut [] s t ∧ pcAdvanced 3 s t :=
  ⟨_, rfl, pairWritten_congr (setReg16_written s rr nn) (fun r => by simp) (by simp), by simp, ⟨by simp, by simp, by simp⟩,
    fun a _ => by simp, advance_pcAdvanced s _ 3 (by simp)⟩

theorem ldMemSp_spec (nn : Word) (s : State) :
    completes (ldMemSp nn s) fun t => t.read nn = loByte s.sp ∧ t.read (nn + 1) = hiByte s.sp ∧ sameMemoryBut [nn, nn + 1] s t ∧
      sameRegsBut [] s t ∧ t.f = s.f ∧ sameControl s t ∧ pcAdvanced 3 s t :=
  ⟨_, rfl, by simp [write16_read], by simp [write16_read], fun a ha => by simp_all [write16_read], fun q _ => by simp, rfl,
    ⟨rfl, rfl, rfl, rfl⟩, advance_pcAdvanced s _ 3 rfl⟩

theorem ldSpFromHl_spec (s : State) :
    completes (ldSpFromHl s) fun t => t.sp = joinBytes s.h s.l ∧ sameRegsBut [] s t ∧ t.f = s.f ∧ sameInterrupts s t ∧
      sameMemoryBut [] s t ∧ pcAdvanced 1 s t :=
  ⟨_, rfl, rfl, fun q _ => by cases q <;> rfl, rfl, ⟨rfl, rfl, rfl⟩, fun _ _ => rfl, advance_pcAdvanced s _ 1 rfl⟩

theorem ldHlFromSp_spec (n : Byte) (s : State) :
    completes (ldHlFromSp n s) fun t => t.reg16 .hl = addSpEValue s.sp n ∧ flagsAre s t false false (addSpEHalf s.sp n) (addSpECarry s.sp n) ∧
      sameRegsBut [.h, .l] s t ∧ sameControl s t ∧ sameMemoryBut [] s t ∧ pcAdvanced 2 s t :=
  ⟨_, rfl, by simp, flagsAre_of_f rfl, fun q hq => by cases q <;> first | rfl | simp at hq, ⟨rfl, rfl, rfl, rfl⟩, fun _ _ => rfl,
    advance_pcAdvanced s _ 2 rfl⟩

/-! ## Control -/

/-- A jump changes pc alone. -/
theorem jump_sameButPc (s : State) (x : Word) : sameButPc s (s.jump x) :=
  ⟨fun q _ => by simp, rfl, ⟨rfl, rfl, rfl, rfl⟩, fun _ _ => rfl⟩

/-- So does falling through. -/
theorem advance_sameButPc (s : State) (k : Nat) : sameButPc s (s.advance k) :=
  ⟨fun q _ => by simp, rfl, ⟨rfl, rfl, rfl, rfl⟩, fun _ _ => rfl⟩

/-- The condition of R36 in the terms of the claims. -/
theorem condHolds_eq (cc : Cond) (s : State) : condHolds cc s.f = condition cc s := by cases cc <;> rfl

theorem jumpTo_spec (x : Word) (s : State) : completes (jumpTo x s) fun t => t.pc = x ∧ sameButPc s t := ⟨_, rfl, rfl, jump_sameButPc s x⟩

theorem jumpIf_spec (cc : Cond) (nn : Word) (s : State) :
    completes (jumpIf cc nn s) fun t => (if condition cc s then t.pc = nn else pcAdvanced 3 s t) ∧ sameButPc s t := by
  unfold jumpIf
  rw [condHolds_eq]
  split <;> rename_i hc
  · exact ⟨_, rfl, by simp, jump_sameButPc s nn⟩
  · exact ⟨_, rfl, by simpa [hc] using advance_pcAdvanced s s 3 rfl, advance_sameButPc s 3⟩

/-- The target of a relative jump as an integer (R223). -/
theorem relativeTarget_toNat (e : Int) (s : State) : ((s.relativeTarget e).toNat : Int) = (s.pc.toNat + 2 + e) % 65536 := by
  simp [State.relativeTarget, u16, BitVec.toNat_ofInt]
  omega

theorem jumpRelative_spec (e : Int) (s : State) :
    completes (jumpRelative e s) fun t => (t.pc.toNat : Int) = (s.pc.toNat + 2 + e) % 65536 ∧ sameButPc s t :=
  ⟨_, rfl, relativeTarget_toNat e s, jump_sameButPc s _⟩

theorem jumpRelativeIf_spec (cc : Cond) (e : Int) (s : State) :
    completes (jumpRelativeIf cc e s) fun t =>
      (if condition cc s then (t.pc.toNat : Int) = (s.pc.toNat + 2 + e) % 65536 else pcAdvanced 2 s t) ∧ sameButPc s t := by
  unfold jumpRelativeIf
  rw [condHolds_eq]
  split <;> rename_i hc
  · exact ⟨_, rfl, by simpa [hc] using relativeTarget_toNat e s, jump_sameButPc s _⟩
  · exact ⟨_, rfl, by simpa [hc] using advance_pcAdvanced s s 2 rfl, advance_sameButPc s 2⟩

/-- `Push16(v)` (R360). -/
theorem push16_spec (v : Word) (s : State) : pushedWord v s (s.push16 v) := by
  refine ⟨?_, by simp [push16_read], by simp [push16_read], fun a ha => by simp_all [push16_read]⟩
  simp only [push16_sp, BitVec.toNat_sub]
  simp
  omega

/-- `Pop16()` (R361). -/
theorem drop16_spec (s : State) : poppedWord s s.drop16 := ⟨by simp [BitVec.toNat_add], fun _ _ => by simp⟩

theorem callTo_spec (x : Word) (k : Nat) (s : State) :
    completes (callTo x k s) fun t => t.pc = x ∧ pushedWord (s.pcAfter k) s t ∧ sameRegsBut [] s t ∧ t.f = s.f ∧ sameInterrupts s t :=
  ⟨_, rfl, rfl, push16_spec _ s, fun q _ => by simp, rfl, ⟨rfl, rfl, rfl⟩⟩

theorem callIf_spec (cc : Cond) (nn : Word) (s : State) :
    completes (callIf cc nn s) fun t =>
      if condition cc s then t.pc = nn ∧ pushedWord (s.pcAfter 3) s t ∧ sameRegsBut [] s t ∧ t.f = s.f ∧ sameInterrupts s t
      else pcAdvanced 3 s t ∧ sameButPc s t := by
  unfold callIf
  rw [condHolds_eq]
  split <;> rename_i hc
  · simpa [hc] using callTo_spec nn 3 s
  · exact ⟨_, rfl, by simpa [hc] using ⟨advance_pcAdvanced s s 3 rfl, advance_sameButPc s 3⟩⟩

theorem returnTo_spec (s : State) :
    completes (returnTo s) fun t => t.pc = stackTop s ∧ poppedWord s t ∧ sameRegsBut [] s t ∧ t.f = s.f ∧ sameInterrupts s t :=
  ⟨_, rfl, rfl, drop16_spec s, fun q _ => by simp, rfl, ⟨rfl, rfl, rfl⟩⟩

theorem returnIf_spec (cc : Cond) (s : State) :
    completes (returnIf cc s) fun t =>
      if condition cc s then t.pc = stackTop s ∧ poppedWord s t ∧ sameRegsBut [] s t ∧ t.f = s.f ∧ sameInterrupts s t
      else pcAdvanced 1 s t ∧ sameButPc s t := by
  unfold returnIf
  rw [condHolds_eq]
  split <;> rename_i hc
  · simpa [hc] using returnTo_spec s
  · exact ⟨_, rfl, by simpa [hc] using ⟨advance_pcAdvanced s s 1 rfl, advance_sameButPc s 1⟩⟩

theorem returnFromInterrupt_spec (s : State) :
    completes (returnFromInterrupt s) fun t => t.pc = stackTop s ∧ poppedWord s t ∧ sameRegsBut [] s t ∧ t.f = s.f ∧ t.ime = true ∧
      t.pending = s.pending ∧ t.params = s.params :=
  ⟨_, rfl, rfl, drop16_spec s, fun q _ => by simp, rfl, rfl, rfl, rfl⟩

/-! ## Arithmetic, logic, rotates and bits -/

/-- A and F written by an ALU operation, CP leaving A (R264). -/
theorem aluA_spec (op : AluOp) (v : Byte) (k : Nat) (s : State) :
    let r := alu op s.a v (flagC s.f)
    completes (aluA op v k s) fun t => t.a = (if op = .cp then s.a else r.res) ∧ flagsAre s t r.z r.n r.h r.c ∧ sameRegsBut [.a] s t ∧
      sameControl s t ∧ sameMemoryBut [] s t ∧ pcAdvanced k s t := by
  refine ⟨_, rfl, ?_, flagsAre_of_f ?_, fun q hq => ?_, ⟨?_, ?_, ?_, ?_⟩, fun a _ => ?_, advance_pcAdvanced s _ k ?_⟩ <;>
    by_cases h : op = .cp <;> simp_all [reg8_setReg8]

/-- An operand and F written, and pc advanced. -/
theorem setOperand_setFlags (s : State) (o : Operand8) (v : Byte) (z n h c : Bool) (k : Nat) :
    let t := ((s.setOperand o v).setFlags z n h c).advance k
    operandWritten o v s t ∧ flagsAre s t z n h c ∧ sameControl s t ∧ pcAdvanced k s t :=
  ⟨operandWritten_congr (setOperand_written s o v) (fun r => by simp) (fun a => by simp), flagsAre_of_f (by simp),
    ⟨by simp, by simp, by simp, by simp⟩, advance_pcAdvanced s _ k (by simp)⟩

theorem incOperand_spec (o : Operand8) (s : State) :
    let r := add8 (s.operand o) 1 false
    completes (incOperand o s) fun t => operandWritten o r.res s t ∧ flagsAre s t r.z r.n r.h (flagC s.f) ∧ sameControl s t ∧ pcAdvanced 1 s t :=
  ⟨_, rfl, setOperand_setFlags ..⟩

theorem decOperand_spec (o : Operand8) (s : State) :
    let r := sub8 (s.operand o) 1 false
    completes (decOperand o s) fun t => operandWritten o r.res s t ∧ flagsAre s t r.z r.n r.h (flagC s.f) ∧ sameControl s t ∧ pcAdvanced 1 s t :=
  ⟨_, rfl, setOperand_setFlags ..⟩

/-- A and F written, and pc advanced by 1. -/
theorem setA_setFlags (s : State) (v : Byte) (z n h c : Bool) (k : Nat) :
    let t := ((s.setReg8 .a v).setFlags z n h c).advance k
    t.a = v ∧ flagsAre s t z n h c ∧ sameRegsBut [.a] s t ∧ sameControl s t ∧ sameMemoryBut [] s t ∧ pcAdvanced k s t :=
  ⟨rfl, flagsAre_of_f rfl, fun q hq => by simp_all [reg8_setReg8], ⟨rfl, rfl, rfl, rfl⟩, fun _ _ => rfl, advance_pcAdvanced s _ k rfl⟩

theorem decimalAdjust_spec (s : State) :
    let r := daaAdjust s.a s.f
    completes (decimalAdjust s) fun t => t.a = r.1 ∧ flagsAre s t (r.1 == 0) (flagN s.f) false r.2 ∧ sameRegsBut [.a] s t ∧ sameControl s t ∧
      sameMemoryBut [] s t ∧ pcAdvanced 1 s t :=
  ⟨_, rfl, setA_setFlags ..⟩

theorem complementA_spec (s : State) :
    completes (complementA s) fun t => t.a = 0xFF ^^^ s.a ∧ flagsAre s t (flagZ s.f) true true (flagC s.f) ∧ sameRegsBut [.a] s t ∧
      sameControl s t ∧ sameMemoryBut [] s t ∧ pcAdvanced 1 s t :=
  ⟨_, rfl, setA_setFlags ..⟩

theorem writeCarry_spec (c : Bool) (s : State) :
    completes (writeCarry c s) fun t => flagsAre s t (flagZ s.f) false false c ∧ sameRegsBut [] s t ∧ sameControl s t ∧
      sameMemoryBut [] s t ∧ pcAdvanced 1 s t :=
  ⟨_, rfl, flagsAre_of_f rfl, fun q _ => by simp, ⟨rfl, rfl, rfl, rfl⟩, fun _ _ => rfl, advance_pcAdvanced s _ 1 rfl⟩

theorem movePair_spec (rr : Reg16) (delta : Word) (s : State) :
    completes (movePair rr delta s) fun t => pairWritten rr (s.reg16 rr + delta) s t ∧ t.f = s.f ∧ sameInterrupts s t ∧ sameMemoryBut [] s t ∧
      pcAdvanced 1 s t :=
  ⟨_, rfl, pairWritten_congr (setReg16_written s rr _) (fun r => by simp) (by simp), by simp, ⟨by simp, by simp, by simp⟩,
    fun a _ => by simp, advance_pcAdvanced s _ 1 (by simp)⟩

theorem addToHl_spec (rr : Reg16) (s : State) :
    let x := s.reg16 .hl
    let y := s.reg16 rr
    completes (addToHl rr s) fun t => t.reg16 .hl = x + y ∧ flagsAre s t (flagZ s.f) false (halfCarry16 x y) (carry16 x y) ∧
      sameRegsBut [.h, .l] s t ∧ sameControl s t ∧ sameMemoryBut [] s t ∧ pcAdvanced 1 s t :=
  ⟨_, rfl, by simp [State.hl], flagsAre_of_f rfl, fun q hq => by cases q <;> first | rfl | simp at hq, ⟨rfl, rfl, rfl, rfl⟩,
    fun _ _ => rfl, advance_pcAdvanced s _ 1 rfl⟩

theorem addToSp_spec (n : Byte) (s : State) :
    completes (addToSp n s) fun t => t.sp = addSpEValue s.sp n ∧ flagsAre s t false false (addSpEHalf s.sp n) (addSpECarry s.sp n) ∧
      sameRegsBut [] s t ∧ sameInterrupts s t ∧ sameMemoryBut [] s t ∧ pcAdvanced 2 s t :=
  ⟨_, rfl, rfl, flagsAre_of_f rfl, fun q _ => by cases q <;> rfl, ⟨rfl, rfl, rfl⟩, fun _ _ => rfl, advance_pcAdvanced s _ 2 rfl⟩

theorem rotateA_spec (op : RotOp) (s : State) :
    let res := shiftResult op s.a (flagC s.f)
    completes (rotateA op s) fun t => t.a = res ∧ flagsAre s t (rotateAZero s.params res) false false (shiftCarry op s.a) ∧
      sameRegsBut [.a] s t ∧ sameControl s t ∧ sameMemoryBut [] s t ∧ pcAdvanced 1 s t :=
  ⟨_, rfl, setA_setFlags ..⟩

theorem rotateOperand_spec (op : RotOp) (o : Operand8) (s : State) :
    let res := shiftResult op (s.operand o) (flagC s.f)
    completes (rotateOperand op o s) fun t => operandWritten o res s t ∧ flagsAre s t (res == 0) false false (shiftCarry op (s.operand o)) ∧
      sameControl s t ∧ pcAdvanced 2 s t :=
  ⟨_, rfl, setOperand_setFlags ..⟩

theorem testBit_spec (b : Fin 8) (o : Operand8) (s : State) :
    completes (testBit b o s) fun t => flagsAre s t (!bitOf (s.operand o) b) false true (flagC s.f) ∧ sameRegsBut [] s t ∧
      sameMemoryBut [] s t ∧ sameControl s t ∧ pcAdvanced 2 s t :=
  ⟨_, rfl, flagsAre_of_f rfl, fun q _ => by simp, fun _ _ => rfl, ⟨rfl, rfl, rfl, rfl⟩, advance_pcAdvanced s _ 2 rfl⟩

/-- An operand written, F left, and pc advanced. -/
theorem setOperand_advance (s : State) (o : Operand8) (v : Byte) (k : Nat) :
    let t := (s.setOperand o v).advance k
    operandWritten o v s t ∧ t.f = s.f ∧ sameControl s t ∧ pcAdvanced k s t :=
  ⟨operandWritten_congr (setOperand_written s o v) (fun r => by simp) (fun a => by simp), by simp,
    ⟨by simp, by simp, by simp, by simp⟩, advance_pcAdvanced s _ k (by simp)⟩

theorem resetBit_spec (b : Fin 8) (o : Operand8) (s : State) :
    completes (resetBit b o s) fun t => operandWritten o (s.operand o &&& ~~~ bitMask b) s t ∧ t.f = s.f ∧ sameControl s t ∧ pcAdvanced 2 s t :=
  ⟨_, rfl, setOperand_advance ..⟩

theorem setBit_spec (b : Fin 8) (o : Operand8) (s : State) :
    completes (setBit b o s) fun t => operandWritten o (s.operand o ||| bitMask b) s t ∧ t.f = s.f ∧ sameControl s t ∧ pcAdvanced 2 s t :=
  ⟨_, rfl, setOperand_advance ..⟩

/-! ## Stack -/

theorem pushPair_spec (rr : StackPair) (s : State) :
    completes (pushPair rr s) fun t => pushedWord (s.stackPair rr) s t ∧ sameRegsBut [] s t ∧ t.f = s.f ∧ sameInterrupts s t ∧ pcAdvanced 1 s t :=
  ⟨_, rfl, push16_spec _ s, fun q _ => by simp, rfl, ⟨rfl, rfl, rfl⟩, advance_pcAdvanced s _ 1 rfl⟩

theorem popPair_spec (rr : StackPair) (s : State) :
    completes (popPair rr s) fun t => t.stackPair rr = stackTop s ∧ poppedWord s t ∧ sameInterrupts s t ∧ pcAdvanced 1 s t ∧
      t = ((s.drop16.setStackPair rr (stackTop s)).advance 1) :=
  ⟨_, rfl, by cases rr <;> exact joinBytes_bytes _, ⟨by simp [BitVec.toNat_add], fun _ _ => by simp⟩, ⟨by simp, by simp, by simp⟩,
    advance_pcAdvanced s _ 1 (by simp), rfl⟩

theorem popAccumulatorFlags_spec (s : State) :
    completes (popAccumulatorFlags s) fun t => t.a = s.read (s.sp + 1) ∧ t.f = poppedF s.params (s.read s.sp) ∧ poppedWord s t ∧
      sameRegsBut [.a] s t ∧ sameInterrupts s t ∧ pcAdvanced 1 s t := by
  refine ⟨_, rfl, ?_, ?_, ⟨by simp [BitVec.toNat_add], fun _ _ => by simp⟩, fun q hq => by cases q <;> first | rfl | simp at hq,
    ⟨by simp, by simp, by simp⟩, advance_pcAdvanced s _ 1 (by simp)⟩ <;>
    simp [State.setStackPair, State.top16, State.read16]

end Sys2Proof.Machine
end

