-- ==== Sys2Proof/Laws/Cycles.lean ====
section
/-! SUPPORT. The cycle count of an instruction from its opcode byte (70_reset_and_hazards.md R414), and the forms in which the claims write an offset byte and the I/O page. -/

namespace Sys2Proof.Machine

/-- The count by the entry of the primary table. -/
theorem cycles_primary {i : Instr} {s : State} {op : Byte} {rest : List Byte} (h : encode i = op :: rest) (hop : op ≠ 0xCB) :
    cycles i s = (primaryCycles op).count (condHolds (condOf (fieldY op)) s.f) := by
  unfold cycles
  rw [h]
  exact if_neg hop

/-- An entry without a condition. -/
theorem cycles_always {i : Instr} {s : State} {op : Byte} {rest : List Byte} {n : Nat} (h : encode i = op :: rest) (hop : op ≠ 0xCB)
    (he : primaryCycles op = .always n) : cycles i s = n := by
  rw [cycles_primary h hop, he]
  rfl

/-- An entry with a condition. -/
theorem cycles_branch {i : Instr} {s : State} {op : Byte} {rest : List Byte} {cc : Cond} {taken notTaken : Nat} (h : encode i = op :: rest)
    (hop : op ≠ 0xCB) (he : primaryCycles op = .branch taken notTaken) (hcc : condOf (fieldY op) = cc) :
    cycles i s = if condition cc s then taken else notTaken := by
  rw [cycles_primary h hop, he, hcc, condHolds_eq]
  rfl

/-- An extended opcode. -/
theorem cycles_extended {i : Instr} {s : State} {op : Byte} (h : encode i = [0xCB, op]) : cycles i s = extendedCycles op := by
  unfold cycles
  rw [h]
  rfl

/-- The displacement of the claims is the decoder's reading of the byte (R112). -/
theorem displacement_eq (n : Byte) : displacement n = s8 n := by
  revert n
  decide

/-- Its raw byte is the byte itself. -/
@[simp] theorem dispByte_displacement (n : Byte) : dispByte (displacement n) = n := by
  rw [displacement_eq]
  exact u8_s8 n

/-- An address of the I/O page is 0xFF followed by the byte (R110). -/
theorem ioAddress_eq (n : Byte) : ioAddress n = joinBytes 0xFF n := by
  revert n
  decide

/-- A completed instruction has every property that follows from one it has. -/
theorem completes_mono {r : Result} {p q : State → Prop} (h : completes r p) (hpq : ∀ t, p t → q t) : completes r q := by
  obtain ⟨t, ht, hp⟩ := h
  exact ⟨t, ht, hpq t hp⟩

/-- What a completed instruction answers has the property. -/
theorem completes_next {r : Result} {p : State → Prop} {t : State} (h : completes r p) (ht : r = .next t) : p t := by
  obtain ⟨u, hu, hp⟩ := h
  rw [ht, Host.Outcome.next.injEq] at hu
  exact hu ▸ hp

end Sys2Proof.Machine
end

