-- ==== Sys2Proof/Laws/Computations.lean ====
section
/-! SUPPORT. Each computation of Flags.lean and Operands.lean as the plain numbers in which the rules and the claims state it. -/

namespace Sys2Proof.Machine

/-- The low nibble as a remainder. -/
theorem and_fifteen (x : Nat) : x &&& 0xF = x % 16 := Nat.and_two_pow_sub_one_eq_mod x 4

/-- A byte is zero where its number is a multiple of 256. -/
theorem ofNat_eq_zero (n : Nat) : (BitVec.ofNat 8 n == 0) = decide (n % 256 = 0) := by
  rw [Bool.eq_iff_iff]
  simp [← BitVec.toNat_inj]

/-- `Add8` (R250). -/
theorem add8_numbers (a v : Byte) (cin : Bool) :
    let sum := a.toNat + v.toNat + cin.toNat
    add8 a v cin = { res := BitVec.ofNat 8 sum, z := decide (sum % 256 = 0), n := false,
                     h := decide (15 < a.toNat % 16 + v.toNat % 16 + cin.toNat), c := decide (255 < sum) } := by
  have hh : ∀ x : Nat, x < 32 → (x &&& 0x10 != 0) = decide (15 < x) := by decide
  have hc := Bool.toNat_lt cin
  have hr : ∀ n : Nat, u8 (n : Int) = BitVec.ofNat 8 n := fun n => by simp [u8]
  simp only [add8, and_fifteen, hh _ (show a.toNat % 16 + v.toNat % 16 + cin.toNat < 32 by omega), hr, ofNat_eq_zero]

/-- `Sub8` (R251). -/
theorem sub8_numbers (a v : Byte) (cin : Bool) :
    let difference := a.toNat + 512 - (v.toNat + cin.toNat)
    sub8 a v cin = { res := BitVec.ofNat 8 difference, z := decide (difference % 256 = 0), n := true,
                     h := decide (a.toNat % 16 < v.toNat % 16 + cin.toNat), c := decide (a.toNat < v.toNat + cin.toNat) } := by
  have hc := Bool.toNat_lt cin
  have ha := a.isLt
  have hv := v.isLt
  have hr : u8 ((a.toNat : Int) - v.toNat - cin.toNat) = BitVec.ofNat 8 (a.toNat + 512 - (v.toNat + cin.toNat)) := by
    apply BitVec.eq_of_toNat_eq
    simp [u8, BitVec.toNat_ofInt]
    omega
  simp only [sub8, and_fifteen, hr, ofNat_eq_zero]
  congr 1 <;> rw [decide_eq_decide] <;> omega

/-- `Shift8` (R310). -/
theorem shift8_numbers : ∀ (op : RotOp) (v : Byte) (cin : Bool),
    shiftResult op v cin = BitVec.ofNat 8 (shiftedNumber op v.toNat cin.toNat) ∧
      (shiftResult op v cin == 0) = decide (shiftedNumber op v.toNat cin.toNat = 0) ∧ shiftCarry op v = shiftedOut op v.toNat := by
  intro op
  cases op <;> decide +kernel

/-- The bit tests and masks of BIT, RES and SET (R331 to R336). -/
theorem bit_numbers : ∀ (b : Fin 8) (v : Byte),
    (!bitOf v b) = decide (v.toNat / 2 ^ b.val % 2 = 0) ∧
      (v &&& ~~~ bitMask b) = BitVec.ofNat 8 (v.toNat - v.toNat / 2 ^ b.val % 2 * 2 ^ b.val) ∧
      (v ||| bitMask b) = BitVec.ofNat 8 (v.toNat + (1 - v.toNat / 2 ^ b.val % 2) * 2 ^ b.val) := by decide +kernel

/-- DAA reads no bit of F but N, H and C (R271). -/
theorem daaAdjust_flags (a f : Byte) : daaAdjust a f = daaAdjust a (withFlags 0 false (flagN f) (flagH f) (flagC f)) := by
  unfold daaAdjust
  simp only [flagN_withFlags, flagH_withFlags, flagC_withFlags]

/-- The value of `AddSpE` (R278). -/
theorem addSpEValue_toNat (x : Word) (n : Byte) : ((addSpEValue x n).toNat : Int) = (x.toNat + displacement n) % 65536 := by
  rw [displacement_eq]
  simp [addSpEValue, u16, BitVec.toNat_ofInt]
  omega

/-- The flags of `AddSpE` (R278). -/
theorem addSpE_numbers (x : Word) (n : Byte) :
    addSpEHalf x n = decide (15 < x.toNat % 16 + n.toNat % 16) ∧ addSpECarry x n = decide (255 < x.toNat % 256 + n.toNat) :=
  ⟨by simp only [addSpEHalf, show ∀ k : Nat, k &&& 0x0F = k % 16 from and_fifteen],
    by simp only [addSpECarry, show ∀ k : Nat, k &&& 0xFF = k % 256 from fun k => Nat.and_two_pow_sub_one_eq_mod k 8]⟩

/-- The flags of ADD HL,rr (R277). -/
theorem addHl_numbers (x y : Word) :
    halfCarry16 x y = decide (0x0FFF < x.toNat % 4096 + y.toNat % 4096) ∧ carry16 x y = decide (0xFFFF < x.toNat + y.toNat) :=
  ⟨by simp only [halfCarry16, show ∀ k : Nat, k &&& 0x0FFF = k % 4096 from fun k => Nat.and_two_pow_sub_one_eq_mod k 12], rfl⟩

/-- The address after an instruction (R145). -/
theorem pcAfter_eq (s : State) (k : Nat) : s.pcAfter k = BitVec.ofNat 16 (s.pc.toNat + k) := by
  apply BitVec.eq_of_toNat_eq
  simp [State.pcAfter]

end Sys2Proof.Machine
end

