-- ==== Sys2Proof/Laws/Decode.lean ====
section
/-! SUPPORT. The opcode map row by row, and the inversion of the decoder: what decodes to an instruction is its encoding (30_encoding.md R114 to R120). -/

namespace Sys2Proof

/-- What the encoder and R120 say of the entry of a primary opcode. -/
def EntryAgrees (op : Byte) : Prop :=
  match primaryEntry op with
  | .op i => encode i = [op] ∧ i.WellFormed = true ∧ opcodeLength op = 1
  | .n8 i => (∀ n, encode (i n) = [op, n] ∧ (i n).WellFormed = true) ∧ opcodeLength op = 2
  | .e8 i => (∀ e, encode (i e) = [op, u8 e] ∧ (i e).WellFormed = dispInRange e) ∧ opcodeLength op = 2
  | .n16 i => (∀ nn, encode (i nn) = [op, loByte nn, hiByte nn] ∧ (i nn).WellFormed = true) ∧ opcodeLength op = 3
  | .cb => op = 0xCB

/-- What the encoder says of an extended opcode. -/
def ExtendedAgrees (op : Byte) : Prop := encode (extendedInstr op) = [0xCB, op] ∧ (extendedInstr op).WellFormed = true

/-- A property of the 16 opcodes of each row holds of all 256. -/
theorem forall_byte_of_rows {p : Byte → Prop} (h : ∀ x < 16, ∀ y < 16, p (BitVec.ofNat 8 (16 * x + y))) (b : Byte) : p b := by
  have hb := h (b.toNat / 16) (by have := b.isLt; omega) (b.toNat % 16) (by omega)
  rwa [Nat.div_add_mod, BitVec.ofNat_toNat, BitVec.setWidth_eq] at hb

theorem EntryAgrees.row0 : ∀ y < 16, EntryAgrees (BitVec.ofNat 8 (16 * 0 + y)) := by
  intro y hy
  interval_cases y <;> first | exact ⟨rfl, rfl, rfl⟩ | exact ⟨fun _ => ⟨rfl, rfl⟩, rfl⟩

theorem EntryAgrees.row1 : ∀ y < 16, EntryAgrees (BitVec.ofNat 8 (16 * 1 + y)) := by
  intro y hy
  interval_cases y <;> first | exact ⟨rfl, rfl, rfl⟩ | exact ⟨fun _ => ⟨rfl, rfl⟩, rfl⟩

theorem EntryAgrees.row2 : ∀ y < 16, EntryAgrees (BitVec.ofNat 8 (16 * 2 + y)) := by
  intro y hy
  interval_cases y <;> first | exact ⟨rfl, rfl, rfl⟩ | exact ⟨fun _ => ⟨rfl, rfl⟩, rfl⟩

theorem EntryAgrees.row3 : ∀ y < 16, EntryAgrees (BitVec.ofNat 8 (16 * 3 + y)) := by
  intro y hy
  interval_cases y <;> first | exact ⟨rfl, rfl, rfl⟩ | exact ⟨fun _ => ⟨rfl, rfl⟩, rfl⟩

theorem EntryAgrees.row4 : ∀ y < 16, EntryAgrees (BitVec.ofNat 8 (16 * 4 + y)) := by
  intro y hy
  interval_cases y <;> exact ⟨rfl, rfl, rfl⟩

theorem EntryAgrees.row5 : ∀ y < 16, EntryAgrees (BitVec.ofNat 8 (16 * 5 + y)) := by
  intro y hy
  interval_cases y <;> exact ⟨rfl, rfl, rfl⟩

theorem EntryAgrees.row6 : ∀ y < 16, EntryAgrees (BitVec.ofNat 8 (16 * 6 + y)) := by
  intro y hy
  interval_cases y <;> exact ⟨rfl, rfl, rfl⟩

theorem EntryAgrees.row7 : ∀ y < 16, EntryAgrees (BitVec.ofNat 8 (16 * 7 + y)) := by
  intro y hy
  interval_cases y <;> exact ⟨rfl, rfl, rfl⟩

theorem EntryAgrees.row8 : ∀ y < 16, EntryAgrees (BitVec.ofNat 8 (16 * 8 + y)) := by
  intro y hy
  interval_cases y <;> exact ⟨rfl, rfl, rfl⟩

theorem EntryAgrees.row9 : ∀ y < 16, EntryAgrees (BitVec.ofNat 8 (16 * 9 + y)) := by
  intro y hy
  interval_cases y <;> exact ⟨rfl, rfl, rfl⟩

theorem EntryAgrees.rowA : ∀ y < 16, EntryAgrees (BitVec.ofNat 8 (16 * 10 + y)) := by
  intro y hy
  interval_cases y <;> exact ⟨rfl, rfl, rfl⟩

theorem EntryAgrees.rowB : ∀ y < 16, EntryAgrees (BitVec.ofNat 8 (16 * 11 + y)) := by
  intro y hy
  interval_cases y <;> exact ⟨rfl, rfl, rfl⟩

theorem EntryAgrees.rowC : ∀ y < 16, EntryAgrees (BitVec.ofNat 8 (16 * 12 + y)) := by
  intro y hy
  interval_cases y <;> first | exact ⟨rfl, rfl, rfl⟩ | exact ⟨fun _ => ⟨rfl, rfl⟩, rfl⟩ | exact rfl

theorem EntryAgrees.rowD : ∀ y < 16, EntryAgrees (BitVec.ofNat 8 (16 * 13 + y)) := by
  intro y hy
  interval_cases y <;> first | exact ⟨rfl, rfl, rfl⟩ | exact ⟨fun _ => ⟨rfl, rfl⟩, rfl⟩

theorem EntryAgrees.rowE : ∀ y < 16, EntryAgrees (BitVec.ofNat 8 (16 * 14 + y)) := by
  intro y hy
  interval_cases y <;> first | exact ⟨rfl, rfl, rfl⟩ | exact ⟨fun _ => ⟨rfl, rfl⟩, rfl⟩

theorem EntryAgrees.rowF : ∀ y < 16, EntryAgrees (BitVec.ofNat 8 (16 * 15 + y)) := by
  intro y hy
  interval_cases y <;> first | exact ⟨rfl, rfl, rfl⟩ | exact ⟨fun _ => ⟨rfl, rfl⟩, rfl⟩

theorem ExtendedAgrees.row0 : ∀ y < 16, ExtendedAgrees (BitVec.ofNat 8 (16 * 0 + y)) := by
  intro y hy
  interval_cases y <;> exact ⟨rfl, rfl⟩

theorem ExtendedAgrees.row1 : ∀ y < 16, ExtendedAgrees (BitVec.ofNat 8 (16 * 1 + y)) := by
  intro y hy
  interval_cases y <;> exact ⟨rfl, rfl⟩

theorem ExtendedAgrees.row2 : ∀ y < 16, ExtendedAgrees (BitVec.ofNat 8 (16 * 2 + y)) := by
  intro y hy
  interval_cases y <;> exact ⟨rfl, rfl⟩

theorem ExtendedAgrees.row3 : ∀ y < 16, ExtendedAgrees (BitVec.ofNat 8 (16 * 3 + y)) := by
  intro y hy
  interval_cases y <;> exact ⟨rfl, rfl⟩

theorem ExtendedAgrees.row4 : ∀ y < 16, ExtendedAgrees (BitVec.ofNat 8 (16 * 4 + y)) := by
  intro y hy
  interval_cases y <;> exact ⟨rfl, rfl⟩

theorem ExtendedAgrees.row5 : ∀ y < 16, ExtendedAgrees (BitVec.ofNat 8 (16 * 5 + y)) := by
  intro y hy
  interval_cases y <;> exact ⟨rfl, rfl⟩

theorem ExtendedAgrees.row6 : ∀ y < 16, ExtendedAgrees (BitVec.ofNat 8 (16 * 6 + y)) := by
  intro y hy
  interval_cases y <;> exact ⟨rfl, rfl⟩

theorem ExtendedAgrees.row7 : ∀ y < 16, ExtendedAgrees (BitVec.ofNat 8 (16 * 7 + y)) := by
  intro y hy
  interval_cases y <;> exact ⟨rfl, rfl⟩

theorem ExtendedAgrees.row8 : ∀ y < 16, ExtendedAgrees (BitVec.ofNat 8 (16 * 8 + y)) := by
  intro y hy
  interval_cases y <;> exact ⟨rfl, rfl⟩

theorem ExtendedAgrees.row9 : ∀ y < 16, ExtendedAgrees (BitVec.ofNat 8 (16 * 9 + y)) := by
  intro y hy
  interval_cases y <;> exact ⟨rfl, rfl⟩

theorem ExtendedAgrees.rowA : ∀ y < 16, ExtendedAgrees (BitVec.ofNat 8 (16 * 10 + y)) := by
  intro y hy
  interval_cases y <;> exact ⟨rfl, rfl⟩

theorem ExtendedAgrees.rowB : ∀ y < 16, ExtendedAgrees (BitVec.ofNat 8 (16 * 11 + y)) := by
  intro y hy
  interval_cases y <;> exact ⟨rfl, rfl⟩

theorem ExtendedAgrees.rowC : ∀ y < 16, ExtendedAgrees (BitVec.ofNat 8 (16 * 12 + y)) := by
  intro y hy
  interval_cases y <;> exact ⟨rfl, rfl⟩

theorem ExtendedAgrees.rowD : ∀ y < 16, ExtendedAgrees (BitVec.ofNat 8 (16 * 13 + y)) := by
  intro y hy
  interval_cases y <;> exact ⟨rfl, rfl⟩

theorem ExtendedAgrees.rowE : ∀ y < 16, ExtendedAgrees (BitVec.ofNat 8 (16 * 14 + y)) := by
  intro y hy
  interval_cases y <;> exact ⟨rfl, rfl⟩

theorem ExtendedAgrees.rowF : ∀ y < 16, ExtendedAgrees (BitVec.ofNat 8 (16 * 15 + y)) := by
  intro y hy
  interval_cases y <;> exact ⟨rfl, rfl⟩

/-- Every primary opcode (R114 to R117). -/
theorem EntryAgrees.all (b : Byte) : EntryAgrees b := by
  refine forall_byte_of_rows (fun x hx => ?_) b
  interval_cases x
  · exact EntryAgrees.row0
  · exact EntryAgrees.row1
  · exact EntryAgrees.row2
  · exact EntryAgrees.row3
  · exact EntryAgrees.row4
  · exact EntryAgrees.row5
  · exact EntryAgrees.row6
  · exact EntryAgrees.row7
  · exact EntryAgrees.row8
  · exact EntryAgrees.row9
  · exact EntryAgrees.rowA
  · exact EntryAgrees.rowB
  · exact EntryAgrees.rowC
  · exact EntryAgrees.rowD
  · exact EntryAgrees.rowE
  · exact EntryAgrees.rowF

/-- Every extended opcode (R118). -/
theorem ExtendedAgrees.all (b : Byte) : ExtendedAgrees b := by
  refine forall_byte_of_rows (fun x hx => ?_) b
  interval_cases x
  · exact ExtendedAgrees.row0
  · exact ExtendedAgrees.row1
  · exact ExtendedAgrees.row2
  · exact ExtendedAgrees.row3
  · exact ExtendedAgrees.row4
  · exact ExtendedAgrees.row5
  · exact ExtendedAgrees.row6
  · exact ExtendedAgrees.row7
  · exact ExtendedAgrees.row8
  · exact ExtendedAgrees.row9
  · exact ExtendedAgrees.rowA
  · exact ExtendedAgrees.rowB
  · exact ExtendedAgrees.rowC
  · exact ExtendedAgrees.rowD
  · exact ExtendedAgrees.rowE
  · exact ExtendedAgrees.rowF

/-- The displacement a byte is read as is in range (R112). -/
theorem dispInRange_s8 : ∀ b : Byte, dispInRange (s8 b) = true := by decide

/-- The inversion of `decodeFrom`: the bytes it read are the encoding of what it gives, which is well formed and as long as R120 says. -/
theorem decodeFrom_ok {ε : Type} {fetch : Nat → Except ε Byte} {i : Instr} (h : decodeFrom fetch = .ok i) :
    (∀ (k : Nat) (b : Byte), (encode i)[k]? = some b → fetch k = .ok b) ∧ i.WellFormed = true ∧
      (encode i).length = opcodeLength ((encode i).headD 0) ∧ encode i ≠ [] := by
  unfold decodeFrom at h
  cases h0 : fetch 0 with
  | error => simp [h0] at h
  | ok b0 =>
    have hb := EntryAgrees.all b0
    unfold EntryAgrees at hb
    simp only [h0] at h
    generalize primaryEntry b0 = entry at h hb
    cases entry with
    | op j =>
      simp only [Except.ok.injEq] at h
      subst h
      rw [hb.1]
      exact ⟨fun k b hk => by rcases k with _ | k <;> simp_all, hb.2.1, by simp [hb.2.2], by simp⟩
    | n8 j =>
      cases h1 : fetch 1 with
      | error => simp [h1] at h
      | ok b1 =>
        simp only [h1, Except.ok.injEq] at h
        subst h
        rw [(hb.1 b1).1]
        exact ⟨fun k b hk => by rcases k with _ | _ | k <;> simp_all, (hb.1 b1).2, by simp [hb.2], by simp⟩
    | e8 j =>
      cases h1 : fetch 1 with
      | error => simp [h1] at h
      | ok b1 =>
        simp only [h1, Except.ok.injEq] at h
        subst h
        rw [(hb.1 _).1]
        exact ⟨fun k b hk => by rcases k with _ | _ | k <;> simp_all, (hb.1 _).2.trans (dispInRange_s8 _), by simp [hb.2], by simp⟩
    | n16 j =>
      cases h1 : fetch 1 with
      | error => simp [h1] at h
      | ok b1 =>
        cases h2 : fetch 2 with
        | error => simp [h1, h2] at h
        | ok b2 =>
          simp only [h1, h2, Except.ok.injEq] at h
          subst h
          rw [(hb.1 _).1]
          exact ⟨fun k b hk => by rcases k with _ | _ | _ | k <;> simp_all, (hb.1 _).2, by simp [hb.2], by simp⟩
    | cb =>
      subst hb
      cases h1 : fetch 1 with
      | error => simp [h1] at h
      | ok b1 =>
        simp only [h1, Except.ok.injEq] at h
        subst h
        rw [(ExtendedAgrees.all b1).1]
        exact ⟨fun k b hk => by rcases k with _ | _ | k <;> simp_all, (ExtendedAgrees.all b1).2, rfl, by simp⟩

/-- A source that gives every byte another gives decodes to the same instruction. -/
theorem decodeFrom_mono {ε ε' : Type} {fetch : Nat → Except ε Byte} {fetch' : Nat → Except ε' Byte} {i : Instr}
    (h : decodeFrom fetch = .ok i) (hle : ∀ k b, fetch k = .ok b → fetch' k = .ok b) : decodeFrom fetch' = .ok i := by
  unfold decodeFrom at h ⊢
  cases h0 : fetch 0 with
  | error => simp [h0] at h
  | ok b0 =>
    simp only [h0] at h
    rw [hle 0 b0 h0]
    simp only
    generalize primaryEntry b0 = entry at h
    cases entry with
    | op j => simpa using h
    | cb | n8 | e8 =>
      cases h1 : fetch 1 with
      | error => simp [h1] at h
      | ok b1 =>
        simp only [h1, Except.ok.injEq] at h
        subst h
        simp [hle 1 b1 h1]
    | n16 j =>
      cases h1 : fetch 1 with
      | error => simp [h1] at h
      | ok b1 =>
        cases h2 : fetch 2 with
        | error => simp [h1, h2] at h
        | ok b2 =>
          simp only [h1, h2, Except.ok.injEq] at h
          subst h
          simp [hle 1 b1 h1, hle 2 b2 h2]

end Sys2Proof
end

