-- ==== Sys2Proof/Laws/PerInstr.lean ====
section
/-! SUPPORT. Statements about every instruction as syntax, one lemma per constructor of each of two families. `EncodedLength`: an
encoding has the length that 30_encoding.md R120 gives its first byte. `Selects`: the bytes of an instruction select it in the opcode map. -/

namespace Sys2Proof.Laws

/-- The encoding of the instruction has the length of its first byte (R100, R120). -/
def EncodedLength.Statement (i : Instr) : Prop := (encode i).length = opcodeLength ((encode i).headD 0)

theorem EncodedLength.ldBcNn (nn : Word) : EncodedLength.Statement (.ldBcNn nn) := show 3 = opcodeLength 0x01 by decide
theorem EncodedLength.ldBN (n : Byte) : EncodedLength.Statement (.ldBN n) := show 2 = opcodeLength 0x06 by decide
theorem EncodedLength.ldAtNnSp (nn : Word) : EncodedLength.Statement (.ldAtNnSp nn) := show 3 = opcodeLength 0x08 by decide
theorem EncodedLength.ldCN (n : Byte) : EncodedLength.Statement (.ldCN n) := show 2 = opcodeLength 0x0E by decide
theorem EncodedLength.ldDeNn (nn : Word) : EncodedLength.Statement (.ldDeNn nn) := show 3 = opcodeLength 0x11 by decide
theorem EncodedLength.ldDN (n : Byte) : EncodedLength.Statement (.ldDN n) := show 2 = opcodeLength 0x16 by decide
theorem EncodedLength.jrE (e : Int) : EncodedLength.Statement (.jrE e) := show 2 = opcodeLength 0x18 by decide
theorem EncodedLength.ldEN (n : Byte) : EncodedLength.Statement (.ldEN n) := show 2 = opcodeLength 0x1E by decide
theorem EncodedLength.jrNzE (e : Int) : EncodedLength.Statement (.jrNzE e) := show 2 = opcodeLength 0x20 by decide
theorem EncodedLength.ldHlNn (nn : Word) : EncodedLength.Statement (.ldHlNn nn) := show 3 = opcodeLength 0x21 by decide
theorem EncodedLength.ldHN (n : Byte) : EncodedLength.Statement (.ldHN n) := show 2 = opcodeLength 0x26 by decide
theorem EncodedLength.jrZE (e : Int) : EncodedLength.Statement (.jrZE e) := show 2 = opcodeLength 0x28 by decide
theorem EncodedLength.ldLN (n : Byte) : EncodedLength.Statement (.ldLN n) := show 2 = opcodeLength 0x2E by decide
theorem EncodedLength.jrNcE (e : Int) : EncodedLength.Statement (.jrNcE e) := show 2 = opcodeLength 0x30 by decide
theorem EncodedLength.ldSpNn (nn : Word) : EncodedLength.Statement (.ldSpNn nn) := show 3 = opcodeLength 0x31 by decide
theorem EncodedLength.ldAtHlN (n : Byte) : EncodedLength.Statement (.ldAtHlN n) := show 2 = opcodeLength 0x36 by decide
theorem EncodedLength.jrCE (e : Int) : EncodedLength.Statement (.jrCE e) := show 2 = opcodeLength 0x38 by decide
theorem EncodedLength.ldAN (n : Byte) : EncodedLength.Statement (.ldAN n) := show 2 = opcodeLength 0x3E by decide
theorem EncodedLength.jpNzNn (nn : Word) : EncodedLength.Statement (.jpNzNn nn) := show 3 = opcodeLength 0xC2 by decide
theorem EncodedLength.jpNn (nn : Word) : EncodedLength.Statement (.jpNn nn) := show 3 = opcodeLength 0xC3 by decide
theorem EncodedLength.callNzNn (nn : Word) : EncodedLength.Statement (.callNzNn nn) := show 3 = opcodeLength 0xC4 by decide
theorem EncodedLength.addAN (n : Byte) : EncodedLength.Statement (.addAN n) := show 2 = opcodeLength 0xC6 by decide
theorem EncodedLength.jpZNn (nn : Word) : EncodedLength.Statement (.jpZNn nn) := show 3 = opcodeLength 0xCA by decide
theorem EncodedLength.callZNn (nn : Word) : EncodedLength.Statement (.callZNn nn) := show 3 = opcodeLength 0xCC by decide
theorem EncodedLength.callNn (nn : Word) : EncodedLength.Statement (.callNn nn) := show 3 = opcodeLength 0xCD by decide
theorem EncodedLength.adcAN (n : Byte) : EncodedLength.Statement (.adcAN n) := show 2 = opcodeLength 0xCE by decide
theorem EncodedLength.jpNcNn (nn : Word) : EncodedLength.Statement (.jpNcNn nn) := show 3 = opcodeLength 0xD2 by decide
theorem EncodedLength.callNcNn (nn : Word) : EncodedLength.Statement (.callNcNn nn) := show 3 = opcodeLength 0xD4 by decide
theorem EncodedLength.subAN (n : Byte) : EncodedLength.Statement (.subAN n) := show 2 = opcodeLength 0xD6 by decide
theorem EncodedLength.jpCNn (nn : Word) : EncodedLength.Statement (.jpCNn nn) := show 3 = opcodeLength 0xDA by decide
theorem EncodedLength.callCNn (nn : Word) : EncodedLength.Statement (.callCNn nn) := show 3 = opcodeLength 0xDC by decide
theorem EncodedLength.sbcAN (n : Byte) : EncodedLength.Statement (.sbcAN n) := show 2 = opcodeLength 0xDE by decide
theorem EncodedLength.ldhAtNA (n : Byte) : EncodedLength.Statement (.ldhAtNA n) := show 2 = opcodeLength 0xE0 by decide
theorem EncodedLength.andAN (n : Byte) : EncodedLength.Statement (.andAN n) := show 2 = opcodeLength 0xE6 by decide
theorem EncodedLength.addSpE (e : Int) : EncodedLength.Statement (.addSpE e) := show 2 = opcodeLength 0xE8 by decide
theorem EncodedLength.ldAtNnA (nn : Word) : EncodedLength.Statement (.ldAtNnA nn) := show 3 = opcodeLength 0xEA by decide
theorem EncodedLength.xorAN (n : Byte) : EncodedLength.Statement (.xorAN n) := show 2 = opcodeLength 0xEE by decide
theorem EncodedLength.ldhAAtN (n : Byte) : EncodedLength.Statement (.ldhAAtN n) := show 2 = opcodeLength 0xF0 by decide
theorem EncodedLength.orAN (n : Byte) : EncodedLength.Statement (.orAN n) := show 2 = opcodeLength 0xF6 by decide
theorem EncodedLength.ldHlSpE (e : Int) : EncodedLength.Statement (.ldHlSpE e) := show 2 = opcodeLength 0xF8 by decide
theorem EncodedLength.ldAAtNn (nn : Word) : EncodedLength.Statement (.ldAAtNn nn) := show 3 = opcodeLength 0xFA by decide
theorem EncodedLength.cpAN (n : Byte) : EncodedLength.Statement (.cpAN n) := show 2 = opcodeLength 0xFE by decide
theorem EncodedLength.nop : EncodedLength.Statement .nop := show 1 = opcodeLength 0x00 by decide
theorem EncodedLength.ldAtBcA : EncodedLength.Statement .ldAtBcA := show 1 = opcodeLength 0x02 by decide
theorem EncodedLength.incBc : EncodedLength.Statement .incBc := show 1 = opcodeLength 0x03 by decide
theorem EncodedLength.incB : EncodedLength.Statement .incB := show 1 = opcodeLength 0x04 by decide
theorem EncodedLength.decB : EncodedLength.Statement .decB := show 1 = opcodeLength 0x05 by decide
theorem EncodedLength.rlca : EncodedLength.Statement .rlca := show 1 = opcodeLength 0x07 by decide
theorem EncodedLength.addHlBc : EncodedLength.Statement .addHlBc := show 1 = opcodeLength 0x09 by decide
theorem EncodedLength.ldAAtBc : EncodedLength.Statement .ldAAtBc := show 1 = opcodeLength 0x0A by decide
theorem EncodedLength.decBc : EncodedLength.Statement .decBc := show 1 = opcodeLength 0x0B by decide
theorem EncodedLength.incC : EncodedLength.Statement .incC := show 1 = opcodeLength 0x0C by decide
theorem EncodedLength.decC : EncodedLength.Statement .decC := show 1 = opcodeLength 0x0D by decide
theorem EncodedLength.rrca : EncodedLength.Statement .rrca := show 1 = opcodeLength 0x0F by decide
theorem EncodedLength.stop : EncodedLength.Statement .stop := show 1 = opcodeLength 0x10 by decide
theorem EncodedLength.ldAtDeA : EncodedLength.Statement .ldAtDeA := show 1 = opcodeLength 0x12 by decide
theorem EncodedLength.incDe : EncodedLength.Statement .incDe := show 1 = opcodeLength 0x13 by decide
theorem EncodedLength.incD : EncodedLength.Statement .incD := show 1 = opcodeLength 0x14 by decide
theorem EncodedLength.decD : EncodedLength.Statement .decD := show 1 = opcodeLength 0x15 by decide
theorem EncodedLength.rla : EncodedLength.Statement .rla := show 1 = opcodeLength 0x17 by decide
theorem EncodedLength.addHlDe : EncodedLength.Statement .addHlDe := show 1 = opcodeLength 0x19 by decide
theorem EncodedLength.ldAAtDe : EncodedLength.Statement .ldAAtDe := show 1 = opcodeLength 0x1A by decide
theorem EncodedLength.decDe : EncodedLength.Statement .decDe := show 1 = opcodeLength 0x1B by decide
theorem EncodedLength.incE : EncodedLength.Statement .incE := show 1 = opcodeLength 0x1C by decide
theorem EncodedLength.decE : EncodedLength.Statement .decE := show 1 = opcodeLength 0x1D by decide
theorem EncodedLength.rra : EncodedLength.Statement .rra := show 1 = opcodeLength 0x1F by decide
theorem EncodedLength.ldAtHlIncA : EncodedLength.Statement .ldAtHlIncA := show 1 = opcodeLength 0x22 by decide
theorem EncodedLength.incHl : EncodedLength.Statement .incHl := show 1 = opcodeLength 0x23 by decide
theorem EncodedLength.incH : EncodedLength.Statement .incH := show 1 = opcodeLength 0x24 by decide
theorem EncodedLength.decH : EncodedLength.Statement .decH := show 1 = opcodeLength 0x25 by decide
theorem EncodedLength.daa : EncodedLength.Statement .daa := show 1 = opcodeLength 0x27 by decide
theorem EncodedLength.addHlHl : EncodedLength.Statement .addHlHl := show 1 = opcodeLength 0x29 by decide
theorem EncodedLength.ldAAtHlInc : EncodedLength.Statement .ldAAtHlInc := show 1 = opcodeLength 0x2A by decide
theorem EncodedLength.decHl : EncodedLength.Statement .decHl := show 1 = opcodeLength 0x2B by decide
theorem EncodedLength.incL : EncodedLength.Statement .incL := show 1 = opcodeLength 0x2C by decide
theorem EncodedLength.decL : EncodedLength.Statement .decL := show 1 = opcodeLength 0x2D by decide
theorem EncodedLength.cpl : EncodedLength.Statement .cpl := show 1 = opcodeLength 0x2F by decide
theorem EncodedLength.ldAtHlDecA : EncodedLength.Statement .ldAtHlDecA := show 1 = opcodeLength 0x32 by decide
theorem EncodedLength.incSp : EncodedLength.Statement .incSp := show 1 = opcodeLength 0x33 by decide
theorem EncodedLength.incAtHl : EncodedLength.Statement .incAtHl := show 1 = opcodeLength 0x34 by decide
theorem EncodedLength.decAtHl : EncodedLength.Statement .decAtHl := show 1 = opcodeLength 0x35 by decide
theorem EncodedLength.scf : EncodedLength.Statement .scf := show 1 = opcodeLength 0x37 by decide
theorem EncodedLength.addHlSp : EncodedLength.Statement .addHlSp := show 1 = opcodeLength 0x39 by decide
theorem EncodedLength.ldAAtHlDec : EncodedLength.Statement .ldAAtHlDec := show 1 = opcodeLength 0x3A by decide
theorem EncodedLength.decSp : EncodedLength.Statement .decSp := show 1 = opcodeLength 0x3B by decide
theorem EncodedLength.incA : EncodedLength.Statement .incA := show 1 = opcodeLength 0x3C by decide
theorem EncodedLength.decA : EncodedLength.Statement .decA := show 1 = opcodeLength 0x3D by decide
theorem EncodedLength.ccf : EncodedLength.Statement .ccf := show 1 = opcodeLength 0x3F by decide
theorem EncodedLength.ldBB : EncodedLength.Statement .ldBB := show 1 = opcodeLength 0x40 by decide
theorem EncodedLength.ldBC : EncodedLength.Statement .ldBC := show 1 = opcodeLength 0x41 by decide
theorem EncodedLength.ldBD : EncodedLength.Statement .ldBD := show 1 = opcodeLength 0x42 by decide
theorem EncodedLength.ldBE : EncodedLength.Statement .ldBE := show 1 = opcodeLength 0x43 by decide
theorem EncodedLength.ldBH : EncodedLength.Statement .ldBH := show 1 = opcodeLength 0x44 by decide
theorem EncodedLength.ldBL : EncodedLength.Statement .ldBL := show 1 = opcodeLength 0x45 by decide
theorem EncodedLength.ldBAtHl : EncodedLength.Statement .ldBAtHl := show 1 = opcodeLength 0x46 by decide
theorem EncodedLength.ldBA : EncodedLength.Statement .ldBA := show 1 = opcodeLength 0x47 by decide
theorem EncodedLength.ldCB : EncodedLength.Statement .ldCB := show 1 = opcodeLength 0x48 by decide
theorem EncodedLength.ldCC : EncodedLength.Statement .ldCC := show 1 = opcodeLength 0x49 by decide
theorem EncodedLength.ldCD : EncodedLength.Statement .ldCD := show 1 = opcodeLength 0x4A by decide
theorem EncodedLength.ldCE : EncodedLength.Statement .ldCE := show 1 = opcodeLength 0x4B by decide
theorem EncodedLength.ldCH : EncodedLength.Statement .ldCH := show 1 = opcodeLength 0x4C by decide
theorem EncodedLength.ldCL : EncodedLength.Statement .ldCL := show 1 = opcodeLength 0x4D by decide
theorem EncodedLength.ldCAtHl : EncodedLength.Statement .ldCAtHl := show 1 = opcodeLength 0x4E by decide
theorem EncodedLength.ldCA : EncodedLength.Statement .ldCA := show 1 = opcodeLength 0x4F by decide
theorem EncodedLength.ldDB : EncodedLength.Statement .ldDB := show 1 = opcodeLength 0x50 by decide
theorem EncodedLength.ldDC : EncodedLength.Statement .ldDC := show 1 = opcodeLength 0x51 by decide
theorem EncodedLength.ldDD : EncodedLength.Statement .ldDD := show 1 = opcodeLength 0x52 by decide
theorem EncodedLength.ldDE : EncodedLength.Statement .ldDE := show 1 = opcodeLength 0x53 by decide
theorem EncodedLength.ldDH : EncodedLength.Statement .ldDH := show 1 = opcodeLength 0x54 by decide
theorem EncodedLength.ldDL : EncodedLength.Statement .ldDL := show 1 = opcodeLength 0x55 by decide
theorem EncodedLength.ldDAtHl : EncodedLength.Statement .ldDAtHl := show 1 = opcodeLength 0x56 by decide
theorem EncodedLength.ldDA : EncodedLength.Statement .ldDA := show 1 = opcodeLength 0x57 by decide
theorem EncodedLength.ldEB : EncodedLength.Statement .ldEB := show 1 = opcodeLength 0x58 by decide
theorem EncodedLength.ldEC : EncodedLength.Statement .ldEC := show 1 = opcodeLength 0x59 by decide
theorem EncodedLength.ldED : EncodedLength.Statement .ldED := show 1 = opcodeLength 0x5A by decide
theorem EncodedLength.ldEE : EncodedLength.Statement .ldEE := show 1 = opcodeLength 0x5B by decide
theorem EncodedLength.ldEH : EncodedLength.Statement .ldEH := show 1 = opcodeLength 0x5C by decide
theorem EncodedLength.ldEL : EncodedLength.Statement .ldEL := show 1 = opcodeLength 0x5D by decide
theorem EncodedLength.ldEAtHl : EncodedLength.Statement .ldEAtHl := show 1 = opcodeLength 0x5E by decide
theorem EncodedLength.ldEA : EncodedLength.Statement .ldEA := show 1 = opcodeLength 0x5F by decide
theorem EncodedLength.ldHB : EncodedLength.Statement .ldHB := show 1 = opcodeLength 0x60 by decide
theorem EncodedLength.ldHC : EncodedLength.Statement .ldHC := show 1 = opcodeLength 0x61 by decide
theorem EncodedLength.ldHD : EncodedLength.Statement .ldHD := show 1 = opcodeLength 0x62 by decide
theorem EncodedLength.ldHE : EncodedLength.Statement .ldHE := show 1 = opcodeLength 0x63 by decide
theorem EncodedLength.ldHH : EncodedLength.Statement .ldHH := show 1 = opcodeLength 0x64 by decide
theorem EncodedLength.ldHL : EncodedLength.Statement .ldHL := show 1 = opcodeLength 0x65 by decide
theorem EncodedLength.ldHAtHl : EncodedLength.Statement .ldHAtHl := show 1 = opcodeLength 0x66 by decide
theorem EncodedLength.ldHA : EncodedLength.Statement .ldHA := show 1 = opcodeLength 0x67 by decide
theorem EncodedLength.ldLB : EncodedLength.Statement .ldLB := show 1 = opcodeLength 0x68 by decide
theorem EncodedLength.ldLC : EncodedLength.Statement .ldLC := show 1 = opcodeLength 0x69 by decide
theorem EncodedLength.ldLD : EncodedLength.Statement .ldLD := show 1 = opcodeLength 0x6A by decide
theorem EncodedLength.ldLE : EncodedLength.Statement .ldLE := show 1 = opcodeLength 0x6B by decide
theorem EncodedLength.ldLH : EncodedLength.Statement .ldLH := show 1 = opcodeLength 0x6C by decide
theorem EncodedLength.ldLL : EncodedLength.Statement .ldLL := show 1 = opcodeLength 0x6D by decide
theorem EncodedLength.ldLAtHl : EncodedLength.Statement .ldLAtHl := show 1 = opcodeLength 0x6E by decide
theorem EncodedLength.ldLA : EncodedLength.Statement .ldLA := show 1 = opcodeLength 0x6F by decide
theorem EncodedLength.ldAtHlB : EncodedLength.Statement .ldAtHlB := show 1 = opcodeLength 0x70 by decide
theorem EncodedLength.ldAtHlC : EncodedLength.Statement .ldAtHlC := show 1 = opcodeLength 0x71 by decide
theorem EncodedLength.ldAtHlD : EncodedLength.Statement .ldAtHlD := show 1 = opcodeLength 0x72 by decide
theorem EncodedLength.ldAtHlE : EncodedLength.Statement .ldAtHlE := show 1 = opcodeLength 0x73 by decide
theorem EncodedLength.ldAtHlH : EncodedLength.Statement .ldAtHlH := show 1 = opcodeLength 0x74 by decide
theorem EncodedLength.ldAtHlL : EncodedLength.Statement .ldAtHlL := show 1 = opcodeLength 0x75 by decide
theorem EncodedLength.halt : EncodedLength.Statement .halt := show 1 = opcodeLength 0x76 by decide
theorem EncodedLength.ldAtHlA : EncodedLength.Statement .ldAtHlA := show 1 = opcodeLength 0x77 by decide
theorem EncodedLength.ldAB : EncodedLength.Statement .ldAB := show 1 = opcodeLength 0x78 by decide
theorem EncodedLength.ldAC : EncodedLength.Statement .ldAC := show 1 = opcodeLength 0x79 by decide
theorem EncodedLength.ldAD : EncodedLength.Statement .ldAD := show 1 = opcodeLength 0x7A by decide
theorem EncodedLength.ldAE : EncodedLength.Statement .ldAE := show 1 = opcodeLength 0x7B by decide
theorem EncodedLength.ldAH : EncodedLength.Statement .ldAH := show 1 = opcodeLength 0x7C by decide
theorem EncodedLength.ldAL : EncodedLength.Statement .ldAL := show 1 = opcodeLength 0x7D by decide
theorem EncodedLength.ldAAtHl : EncodedLength.Statement .ldAAtHl := show 1 = opcodeLength 0x7E by decide
theorem EncodedLength.ldAA : EncodedLength.Statement .ldAA := show 1 = opcodeLength 0x7F by decide
theorem EncodedLength.addAB : EncodedLength.Statement .addAB := show 1 = opcodeLength 0x80 by decide
theorem EncodedLength.addAC : EncodedLength.Statement .addAC := show 1 = opcodeLength 0x81 by decide
theorem EncodedLength.addAD : EncodedLength.Statement .addAD := show 1 = opcodeLength 0x82 by decide
theorem EncodedLength.addAE : EncodedLength.Statement .addAE := show 1 = opcodeLength 0x83 by decide
theorem EncodedLength.addAH : EncodedLength.Statement .addAH := show 1 = opcodeLength 0x84 by decide
theorem EncodedLength.addAL : EncodedLength.Statement .addAL := show 1 = opcodeLength 0x85 by decide
theorem EncodedLength.addAAtHl : EncodedLength.Statement .addAAtHl := show 1 = opcodeLength 0x86 by decide
theorem EncodedLength.addAA : EncodedLength.Statement .addAA := show 1 = opcodeLength 0x87 by decide
theorem EncodedLength.adcAB : EncodedLength.Statement .adcAB := show 1 = opcodeLength 0x88 by decide
theorem EncodedLength.adcAC : EncodedLength.Statement .adcAC := show 1 = opcodeLength 0x89 by decide
theorem EncodedLength.adcAD : EncodedLength.Statement .adcAD := show 1 = opcodeLength 0x8A by decide
theorem EncodedLength.adcAE : EncodedLength.Statement .adcAE := show 1 = opcodeLength 0x8B by decide
theorem EncodedLength.adcAH : EncodedLength.Statement .adcAH := show 1 = opcodeLength 0x8C by decide
theorem EncodedLength.adcAL : EncodedLength.Statement .adcAL := show 1 = opcodeLength 0x8D by decide
theorem EncodedLength.adcAAtHl : EncodedLength.Statement .adcAAtHl := show 1 = opcodeLength 0x8E by decide
theorem EncodedLength.adcAA : EncodedLength.Statement .adcAA := show 1 = opcodeLength 0x8F by decide
theorem EncodedLength.subAB : EncodedLength.Statement .subAB := show 1 = opcodeLength 0x90 by decide
theorem EncodedLength.subAC : EncodedLength.Statement .subAC := show 1 = opcodeLength 0x91 by decide
theorem EncodedLength.subAD : EncodedLength.Statement .subAD := show 1 = opcodeLength 0x92 by decide
theorem EncodedLength.subAE : EncodedLength.Statement .subAE := show 1 = opcodeLength 0x93 by decide
theorem EncodedLength.subAH : EncodedLength.Statement .subAH := show 1 = opcodeLength 0x94 by decide
theorem EncodedLength.subAL : EncodedLength.Statement .subAL := show 1 = opcodeLength 0x95 by decide
theorem EncodedLength.subAAtHl : EncodedLength.Statement .subAAtHl := show 1 = opcodeLength 0x96 by decide
theorem EncodedLength.subAA : EncodedLength.Statement .subAA := show 1 = opcodeLength 0x97 by decide
theorem EncodedLength.sbcAB : EncodedLength.Statement .sbcAB := show 1 = opcodeLength 0x98 by decide
theorem EncodedLength.sbcAC : EncodedLength.Statement .sbcAC := show 1 = opcodeLength 0x99 by decide
theorem EncodedLength.sbcAD : EncodedLength.Statement .sbcAD := show 1 = opcodeLength 0x9A by decide
theorem EncodedLength.sbcAE : EncodedLength.Statement .sbcAE := show 1 = opcodeLength 0x9B by decide
theorem EncodedLength.sbcAH : EncodedLength.Statement .sbcAH := show 1 = opcodeLength 0x9C by decide
theorem EncodedLength.sbcAL : EncodedLength.Statement .sbcAL := show 1 = opcodeLength 0x9D by decide
theorem EncodedLength.sbcAAtHl : EncodedLength.Statement .sbcAAtHl := show 1 = opcodeLength 0x9E by decide
theorem EncodedLength.sbcAA : EncodedLength.Statement .sbcAA := show 1 = opcodeLength 0x9F by decide
theorem EncodedLength.andAB : EncodedLength.Statement .andAB := show 1 = opcodeLength 0xA0 by decide
theorem EncodedLength.andAC : EncodedLength.Statement .andAC := show 1 = opcodeLength 0xA1 by decide
theorem EncodedLength.andAD : EncodedLength.Statement .andAD := show 1 = opcodeLength 0xA2 by decide
theorem EncodedLength.andAE : EncodedLength.Statement .andAE := show 1 = opcodeLength 0xA3 by decide
theorem EncodedLength.andAH : EncodedLength.Statement .andAH := show 1 = opcodeLength 0xA4 by decide
theorem EncodedLength.andAL : EncodedLength.Statement .andAL := show 1 = opcodeLength 0xA5 by decide
theorem EncodedLength.andAAtHl : EncodedLength.Statement .andAAtHl := show 1 = opcodeLength 0xA6 by decide
theorem EncodedLength.andAA : EncodedLength.Statement .andAA := show 1 = opcodeLength 0xA7 by decide
theorem EncodedLength.xorAB : EncodedLength.Statement .xorAB := show 1 = opcodeLength 0xA8 by decide
theorem EncodedLength.xorAC : EncodedLength.Statement .xorAC := show 1 = opcodeLength 0xA9 by decide
theorem EncodedLength.xorAD : EncodedLength.Statement .xorAD := show 1 = opcodeLength 0xAA by decide
theorem EncodedLength.xorAE : EncodedLength.Statement .xorAE := show 1 = opcodeLength 0xAB by decide
theorem EncodedLength.xorAH : EncodedLength.Statement .xorAH := show 1 = opcodeLength 0xAC by decide
theorem EncodedLength.xorAL : EncodedLength.Statement .xorAL := show 1 = opcodeLength 0xAD by decide
theorem EncodedLength.xorAAtHl : EncodedLength.Statement .xorAAtHl := show 1 = opcodeLength 0xAE by decide
theorem EncodedLength.xorAA : EncodedLength.Statement .xorAA := show 1 = opcodeLength 0xAF by decide
theorem EncodedLength.orAB : EncodedLength.Statement .orAB := show 1 = opcodeLength 0xB0 by decide
theorem EncodedLength.orAC : EncodedLength.Statement .orAC := show 1 = opcodeLength 0xB1 by decide
theorem EncodedLength.orAD : EncodedLength.Statement .orAD := show 1 = opcodeLength 0xB2 by decide
theorem EncodedLength.orAE : EncodedLength.Statement .orAE := show 1 = opcodeLength 0xB3 by decide
theorem EncodedLength.orAH : EncodedLength.Statement .orAH := show 1 = opcodeLength 0xB4 by decide
theorem EncodedLength.orAL : EncodedLength.Statement .orAL := show 1 = opcodeLength 0xB5 by decide
theorem EncodedLength.orAAtHl : EncodedLength.Statement .orAAtHl := show 1 = opcodeLength 0xB6 by decide
theorem EncodedLength.orAA : EncodedLength.Statement .orAA := show 1 = opcodeLength 0xB7 by decide
theorem EncodedLength.cpAB : EncodedLength.Statement .cpAB := show 1 = opcodeLength 0xB8 by decide
theorem EncodedLength.cpAC : EncodedLength.Statement .cpAC := show 1 = opcodeLength 0xB9 by decide
theorem EncodedLength.cpAD : EncodedLength.Statement .cpAD := show 1 = opcodeLength 0xBA by decide
theorem EncodedLength.cpAE : EncodedLength.Statement .cpAE := show 1 = opcodeLength 0xBB by decide
theorem EncodedLength.cpAH : EncodedLength.Statement .cpAH := show 1 = opcodeLength 0xBC by decide
theorem EncodedLength.cpAL : EncodedLength.Statement .cpAL := show 1 = opcodeLength 0xBD by decide
theorem EncodedLength.cpAAtHl : EncodedLength.Statement .cpAAtHl := show 1 = opcodeLength 0xBE by decide
theorem EncodedLength.cpAA : EncodedLength.Statement .cpAA := show 1 = opcodeLength 0xBF by decide
theorem EncodedLength.retNz : EncodedLength.Statement .retNz := show 1 = opcodeLength 0xC0 by decide
theorem EncodedLength.popBc : EncodedLength.Statement .popBc := show 1 = opcodeLength 0xC1 by decide
theorem EncodedLength.pushBc : EncodedLength.Statement .pushBc := show 1 = opcodeLength 0xC5 by decide
theorem EncodedLength.rst00 : EncodedLength.Statement .rst00 := show 1 = opcodeLength 0xC7 by decide
theorem EncodedLength.retZ : EncodedLength.Statement .retZ := show 1 = opcodeLength 0xC8 by decide
theorem EncodedLength.ret : EncodedLength.Statement .ret := show 1 = opcodeLength 0xC9 by decide
theorem EncodedLength.rst08 : EncodedLength.Statement .rst08 := show 1 = opcodeLength 0xCF by decide
theorem EncodedLength.retNc : EncodedLength.Statement .retNc := show 1 = opcodeLength 0xD0 by decide
theorem EncodedLength.popDe : EncodedLength.Statement .popDe := show 1 = opcodeLength 0xD1 by decide
theorem EncodedLength.illegalD3 : EncodedLength.Statement .illegalD3 := show 1 = opcodeLength 0xD3 by decide
theorem EncodedLength.pushDe : EncodedLength.Statement .pushDe := show 1 = opcodeLength 0xD5 by decide
theorem EncodedLength.rst10 : EncodedLength.Statement .rst10 := show 1 = opcodeLength 0xD7 by decide
theorem EncodedLength.retC : EncodedLength.Statement .retC := show 1 = opcodeLength 0xD8 by decide
theorem EncodedLength.reti : EncodedLength.Statement .reti := show 1 = opcodeLength 0xD9 by decide
theorem EncodedLength.illegalDB : EncodedLength.Statement .illegalDB := show 1 = opcodeLength 0xDB by decide
theorem EncodedLength.illegalDD : EncodedLength.Statement .illegalDD := show 1 = opcodeLength 0xDD by decide
theorem EncodedLength.rst18 : EncodedLength.Statement .rst18 := show 1 = opcodeLength 0xDF by decide
theorem EncodedLength.popHl : EncodedLength.Statement .popHl := show 1 = opcodeLength 0xE1 by decide
theorem EncodedLength.ldhAtCA : EncodedLength.Statement .ldhAtCA := show 1 = opcodeLength 0xE2 by decide
theorem EncodedLength.illegalE3 : EncodedLength.Statement .illegalE3 := show 1 = opcodeLength 0xE3 by decide
theorem EncodedLength.illegalE4 : EncodedLength.Statement .illegalE4 := show 1 = opcodeLength 0xE4 by decide
theorem EncodedLength.pushHl : EncodedLength.Statement .pushHl := show 1 = opcodeLength 0xE5 by decide
theorem EncodedLength.rst20 : EncodedLength.Statement .rst20 := show 1 = opcodeLength 0xE7 by decide
theorem EncodedLength.jpHl : EncodedLength.Statement .jpHl := show 1 = opcodeLength 0xE9 by decide
theorem EncodedLength.illegalEB : EncodedLength.Statement .illegalEB := show 1 = opcodeLength 0xEB by decide
theorem EncodedLength.illegalEC : EncodedLength.Statement .illegalEC := show 1 = opcodeLength 0xEC by decide
theorem EncodedLength.illegalED : EncodedLength.Statement .illegalED := show 1 = opcodeLength 0xED by decide
theorem EncodedLength.rst28 : EncodedLength.Statement .rst28 := show 1 = opcodeLength 0xEF by decide
theorem EncodedLength.popAf : EncodedLength.Statement .popAf := show 1 = opcodeLength 0xF1 by decide
theorem EncodedLength.ldhAAtC : EncodedLength.Statement .ldhAAtC := show 1 = opcodeLength 0xF2 by decide
theorem EncodedLength.di : EncodedLength.Statement .di := show 1 = opcodeLength 0xF3 by decide
theorem EncodedLength.illegalF4 : EncodedLength.Statement .illegalF4 := show 1 = opcodeLength 0xF4 by decide
theorem EncodedLength.pushAf : EncodedLength.Statement .pushAf := show 1 = opcodeLength 0xF5 by decide
theorem EncodedLength.rst30 : EncodedLength.Statement .rst30 := show 1 = opcodeLength 0xF7 by decide
theorem EncodedLength.ldSpHl : EncodedLength.Statement .ldSpHl := show 1 = opcodeLength 0xF9 by decide
theorem EncodedLength.ei : EncodedLength.Statement .ei := show 1 = opcodeLength 0xFB by decide
theorem EncodedLength.illegalFC : EncodedLength.Statement .illegalFC := show 1 = opcodeLength 0xFC by decide
theorem EncodedLength.illegalFD : EncodedLength.Statement .illegalFD := show 1 = opcodeLength 0xFD by decide
theorem EncodedLength.rst38 : EncodedLength.Statement .rst38 := show 1 = opcodeLength 0xFF by decide
theorem EncodedLength.rlcB : EncodedLength.Statement .rlcB := show 2 = opcodeLength 0xCB by decide
theorem EncodedLength.rlcC : EncodedLength.Statement .rlcC := show 2 = opcodeLength 0xCB by decide
theorem EncodedLength.rlcD : EncodedLength.Statement .rlcD := show 2 = opcodeLength 0xCB by decide
theorem EncodedLength.rlcE : EncodedLength.Statement .rlcE := show 2 = opcodeLength 0xCB by decide
theorem EncodedLength.rlcH : EncodedLength.Statement .rlcH := show 2 = opcodeLength 0xCB by decide
theorem EncodedLength.rlcL : EncodedLength.Statement .rlcL := show 2 = opcodeLength 0xCB by decide
theorem EncodedLength.rlcAtHl : EncodedLength.Statement .rlcAtHl := show 2 = opcodeLength 0xCB by decide
theorem EncodedLength.rlcA : EncodedLength.Statement .rlcA := show 2 = opcodeLength 0xCB by decide
theorem EncodedLength.rrcB : EncodedLength.Statement .rrcB := show 2 = opcodeLength 0xCB by decide
theorem EncodedLength.rrcC : EncodedLength.Statement .rrcC := show 2 = opcodeLength 0xCB by decide
theorem EncodedLength.rrcD : EncodedLength.Statement .rrcD := show 2 = opcodeLength 0xCB by decide
theorem EncodedLength.rrcE : EncodedLength.Statement .rrcE := show 2 = opcodeLength 0xCB by decide
theorem EncodedLength.rrcH : EncodedLength.Statement .rrcH := show 2 = opcodeLength 0xCB by decide
theorem EncodedLength.rrcL : EncodedLength.Statement .rrcL := show 2 = opcodeLength 0xCB by decide
theorem EncodedLength.rrcAtHl : EncodedLength.Statement .rrcAtHl := show 2 = opcodeLength 0xCB by decide
theorem EncodedLength.rrcA : EncodedLength.Statement .rrcA := show 2 = opcodeLength 0xCB by decide
theorem EncodedLength.rlB : EncodedLength.Statement .rlB := show 2 = opcodeLength 0xCB by decide
theorem EncodedLength.rlC : EncodedLength.Statement .rlC := show 2 = opcodeLength 0xCB by decide
theorem EncodedLength.rlD : EncodedLength.Statement .rlD := show 2 = opcodeLength 0xCB by decide
theorem EncodedLength.rlE : EncodedLength.Statement .rlE := show 2 = opcodeLength 0xCB by decide
theorem EncodedLength.rlH : EncodedLength.Statement .rlH := show 2 = opcodeLength 0xCB by decide
theorem EncodedLength.rlL : EncodedLength.Statement .rlL := show 2 = opcodeLength 0xCB by decide
theorem EncodedLength.rlAtHl : EncodedLength.Statement .rlAtHl := show 2 = opcodeLength 0xCB by decide
theorem EncodedLength.rlA : EncodedLength.Statement .rlA := show 2 = opcodeLength 0xCB by decide
theorem EncodedLength.rrB : EncodedLength.Statement .rrB := show 2 = opcodeLength 0xCB by decide
theorem EncodedLength.rrC : EncodedLength.Statement .rrC := show 2 = opcodeLength 0xCB by decide
theorem EncodedLength.rrD : EncodedLength.Statement .rrD := show 2 = opcodeLength 0xCB by decide
theorem EncodedLength.rrE : EncodedLength.Statement .rrE := show 2 = opcodeLength 0xCB by decide
theorem EncodedLength.rrH : EncodedLength.Statement .rrH := show 2 = opcodeLength 0xCB by decide
theorem EncodedLength.rrL : EncodedLength.Statement .rrL := show 2 = opcodeLength 0xCB by decide
theorem EncodedLength.rrAtHl : EncodedLength.Statement .rrAtHl := show 2 = opcodeLength 0xCB by decide
theorem EncodedLength.rrA : EncodedLength.Statement .rrA := show 2 = opcodeLength 0xCB by decide
theorem EncodedLength.slaB : EncodedLength.Statement .slaB := show 2 = opcodeLength 0xCB by decide
theorem EncodedLength.slaC : EncodedLength.Statement .slaC := show 2 = opcodeLength 0xCB by decide
theorem EncodedLength.slaD : EncodedLength.Statement .slaD := show 2 = opcodeLength 0xCB by decide
theorem EncodedLength.slaE : EncodedLength.Statement .slaE := show 2 = opcodeLength 0xCB by decide
theorem EncodedLength.slaH : EncodedLength.Statement .slaH := show 2 = opcodeLength 0xCB by decide
theorem EncodedLength.slaL : EncodedLength.Statement .slaL := show 2 = opcodeLength 0xCB by decide
theorem EncodedLength.slaAtHl : EncodedLength.Statement .slaAtHl := show 2 = opcodeLength 0xCB by decide
theorem EncodedLength.slaA : EncodedLength.Statement .slaA := show 2 = opcodeLength 0xCB by decide
theorem EncodedLength.sraB : EncodedLength.Statement .sraB := show 2 = opcodeLength 0xCB by decide
theorem EncodedLength.sraC : EncodedLength.Statement .sraC := show 2 = opcodeLength 0xCB by decide
theorem EncodedLength.sraD : EncodedLength.Statement .sraD := show 2 = opcodeLength 0xCB by decide
theorem EncodedLength.sraE : EncodedLength.Statement .sraE := show 2 = opcodeLength 0xCB by decide
theorem EncodedLength.sraH : EncodedLength.Statement .sraH := show 2 = opcodeLength 0xCB by decide
theorem EncodedLength.sraL : EncodedLength.Statement .sraL := show 2 = opcodeLength 0xCB by decide
theorem EncodedLength.sraAtHl : EncodedLength.Statement .sraAtHl := show 2 = opcodeLength 0xCB by decide
theorem EncodedLength.sraA : EncodedLength.Statement .sraA := show 2 = opcodeLength 0xCB by decide
theorem EncodedLength.swapB : EncodedLength.Statement .swapB := show 2 = opcodeLength 0xCB by decide
theorem EncodedLength.swapC : EncodedLength.Statement .swapC := show 2 = opcodeLength 0xCB by decide
theorem EncodedLength.swapD : EncodedLength.Statement .swapD := show 2 = opcodeLength 0xCB by decide
theorem EncodedLength.swapE : EncodedLength.Statement .swapE := show 2 = opcodeLength 0xCB by decide
theorem EncodedLength.swapH : EncodedLength.Statement .swapH := show 2 = opcodeLength 0xCB by decide
theorem EncodedLength.swapL : EncodedLength.Statement .swapL := show 2 = opcodeLength 0xCB by decide
theorem EncodedLength.swapAtHl : EncodedLength.Statement .swapAtHl := show 2 = opcodeLength 0xCB by decide
theorem EncodedLength.swapA : EncodedLength.Statement .swapA := show 2 = opcodeLength 0xCB by decide
theorem EncodedLength.srlB : EncodedLength.Statement .srlB := show 2 = opcodeLength 0xCB by decide
theorem EncodedLength.srlC : EncodedLength.Statement .srlC := show 2 = opcodeLength 0xCB by decide
theorem EncodedLength.srlD : EncodedLength.Statement .srlD := show 2 = opcodeLength 0xCB by decide
theorem EncodedLength.srlE : EncodedLength.Statement .srlE := show 2 = opcodeLength 0xCB by decide
theorem EncodedLength.srlH : EncodedLength.Statement .srlH := show 2 = opcodeLength 0xCB by decide
theorem EncodedLength.srlL : EncodedLength.Statement .srlL := show 2 = opcodeLength 0xCB by decide
theorem EncodedLength.srlAtHl : EncodedLength.Statement .srlAtHl := show 2 = opcodeLength 0xCB by decide
theorem EncodedLength.srlA : EncodedLength.Statement .srlA := show 2 = opcodeLength 0xCB by decide
theorem EncodedLength.bit0B : EncodedLength.Statement .bit0B := show 2 = opcodeLength 0xCB by decide
theorem EncodedLength.bit0C : EncodedLength.Statement .bit0C := show 2 = opcodeLength 0xCB by decide
theorem EncodedLength.bit0D : EncodedLength.Statement .bit0D := show 2 = opcodeLength 0xCB by decide
theorem EncodedLength.bit0E : EncodedLength.Statement .bit0E := show 2 = opcodeLength 0xCB by decide
theorem EncodedLength.bit0H : EncodedLength.Statement .bit0H := show 2 = opcodeLength 0xCB by decide
theorem EncodedLength.bit0L : EncodedLength.Statement .bit0L := show 2 = opcodeLength 0xCB by decide
theorem EncodedLength.bit0AtHl : EncodedLength.Statement .bit0AtHl := show 2 = opcodeLength 0xCB by decide
theorem EncodedLength.bit0A : EncodedLength.Statement .bit0A := show 2 = opcodeLength 0xCB by decide
theorem EncodedLength.bit1B : EncodedLength.Statement .bit1B := show 2 = opcodeLength 0xCB by decide
theorem EncodedLength.bit1C : EncodedLength.Statement .bit1C := show 2 = opcodeLength 0xCB by decide
theorem EncodedLength.bit1D : EncodedLength.Statement .bit1D := show 2 = opcodeLength 0xCB by decide
theorem EncodedLength.bit1E : EncodedLength.Statement .bit1E := show 2 = opcodeLength 0xCB by decide
theorem EncodedLength.bit1H : EncodedLength.Statement .bit1H := show 2 = opcodeLength 0xCB by decide
theorem EncodedLength.bit1L : EncodedLength.Statement .bit1L := show 2 = opcodeLength 0xCB by decide
theorem EncodedLength.bit1AtHl : EncodedLength.Statement .bit1AtHl := show 2 = opcodeLength 0xCB by decide
theorem EncodedLength.bit1A : EncodedLength.Statement .bit1A := show 2 = opcodeLength 0xCB by decide
theorem EncodedLength.bit2B : EncodedLength.Statement .bit2B := show 2 = opcodeLength 0xCB by decide
theorem EncodedLength.bit2C : EncodedLength.Statement .bit2C := show 2 = opcodeLength 0xCB by decide
theorem EncodedLength.bit2D : EncodedLength.Statement .bit2D := show 2 = opcodeLength 0xCB by decide
theorem EncodedLength.bit2E : EncodedLength.Statement .bit2E := show 2 = opcodeLength 0xCB by decide
theorem EncodedLength.bit2H : EncodedLength.Statement .bit2H := show 2 = opcodeLength 0xCB by decide
theorem EncodedLength.bit2L : EncodedLength.Statement .bit2L := show 2 = opcodeLength 0xCB by decide
theorem EncodedLength.bit2AtHl : EncodedLength.Statement .bit2AtHl := show 2 = opcodeLength 0xCB by decide
theorem EncodedLength.bit2A : EncodedLength.Statement .bit2A := show 2 = opcodeLength 0xCB by decide
theorem EncodedLength.bit3B : EncodedLength.Statement .bit3B := show 2 = opcodeLength 0xCB by decide
theorem EncodedLength.bit3C : EncodedLength.Statement .bit3C := show 2 = opcodeLength 0xCB by decide
theorem EncodedLength.bit3D : EncodedLength.Statement .bit3D := show 2 = opcodeLength 0xCB by decide
theorem EncodedLength.bit3E : EncodedLength.Statement .bit3E := show 2 = opcodeLength 0xCB by decide
theorem EncodedLength.bit3H : EncodedLength.Statement .bit3H := show 2 = opcodeLength 0xCB by decide
theorem EncodedLength.bit3L : EncodedLength.Statement .bit3L := show 2 = opcodeLength 0xCB by decide
theorem EncodedLength.bit3AtHl : EncodedLength.Statement .bit3AtHl := show 2 = opcodeLength 0xCB by decide
theorem EncodedLength.bit3A : EncodedLength.Statement .bit3A := show 2 = opcodeLength 0xCB by decide
theorem EncodedLength.bit4B : EncodedLength.Statement .bit4B := show 2 = opcodeLength 0xCB by decide
theorem EncodedLength.bit4C : EncodedLength.Statement .bit4C := show 2 = opcodeLength 0xCB by decide
theorem EncodedLength.bit4D : EncodedLength.Statement .bit4D := show 2 = opcodeLength 0xCB by decide
theorem EncodedLength.bit4E : EncodedLength.Statement .bit4E := show 2 = opcodeLength 0xCB by decide
theorem EncodedLength.bit4H : EncodedLength.Statement .bit4H := show 2 = opcodeLength 0xCB by decide
theorem EncodedLength.bit4L : EncodedLength.Statement .bit4L := show 2 = opcodeLength 0xCB by decide
theorem EncodedLength.bit4AtHl : EncodedLength.Statement .bit4AtHl := show 2 = opcodeLength 0xCB by decide
theorem EncodedLength.bit4A : EncodedLength.Statement .bit4A := show 2 = opcodeLength 0xCB by decide
theorem EncodedLength.bit5B : EncodedLength.Statement .bit5B := show 2 = opcodeLength 0xCB by decide
theorem EncodedLength.bit5C : EncodedLength.Statement .bit5C := show 2 = opcodeLength 0xCB by decide
theorem EncodedLength.bit5D : EncodedLength.Statement .bit5D := show 2 = opcodeLength 0xCB by decide
theorem EncodedLength.bit5E : EncodedLength.Statement .bit5E := show 2 = opcodeLength 0xCB by decide
theorem EncodedLength.bit5H : EncodedLength.Statement .bit5H := show 2 = opcodeLength 0xCB by decide
theorem EncodedLength.bit5L : EncodedLength.Statement .bit5L := show 2 = opcodeLength 0xCB by decide
theorem EncodedLength.bit5AtHl : EncodedLength.Statement .bit5AtHl := show 2 = opcodeLength 0xCB by decide
theorem EncodedLength.bit5A : EncodedLength.Statement .bit5A := show 2 = opcodeLength 0xCB by decide
theorem EncodedLength.bit6B : EncodedLength.Statement .bit6B := show 2 = opcodeLength 0xCB by decide
theorem EncodedLength.bit6C : EncodedLength.Statement .bit6C := show 2 = opcodeLength 0xCB by decide
theorem EncodedLength.bit6D : EncodedLength.Statement .bit6D := show 2 = opcodeLength 0xCB by decide
theorem EncodedLength.bit6E : EncodedLength.Statement .bit6E := show 2 = opcodeLength 0xCB by decide
theorem EncodedLength.bit6H : EncodedLength.Statement .bit6H := show 2 = opcodeLength 0xCB by decide
theorem EncodedLength.bit6L : EncodedLength.Statement .bit6L := show 2 = opcodeLength 0xCB by decide
theorem EncodedLength.bit6AtHl : EncodedLength.Statement .bit6AtHl := show 2 = opcodeLength 0xCB by decide
theorem EncodedLength.bit6A : EncodedLength.Statement .bit6A := show 2 = opcodeLength 0xCB by decide
theorem EncodedLength.bit7B : EncodedLength.Statement .bit7B := show 2 = opcodeLength 0xCB by decide
theorem EncodedLength.bit7C : EncodedLength.Statement .bit7C := show 2 = opcodeLength 0xCB by decide
theorem EncodedLength.bit7D : EncodedLength.Statement .bit7D := show 2 = opcodeLength 0xCB by decide
theorem EncodedLength.bit7E : EncodedLength.Statement .bit7E := show 2 = opcodeLength 0xCB by decide
theorem EncodedLength.bit7H : EncodedLength.Statement .bit7H := show 2 = opcodeLength 0xCB by decide
theorem EncodedLength.bit7L : EncodedLength.Statement .bit7L := show 2 = opcodeLength 0xCB by decide
theorem EncodedLength.bit7AtHl : EncodedLength.Statement .bit7AtHl := show 2 = opcodeLength 0xCB by decide
theorem EncodedLength.bit7A : EncodedLength.Statement .bit7A := show 2 = opcodeLength 0xCB by decide
theorem EncodedLength.res0B : EncodedLength.Statement .res0B := show 2 = opcodeLength 0xCB by decide
theorem EncodedLength.res0C : EncodedLength.Statement .res0C := show 2 = opcodeLength 0xCB by decide
theorem EncodedLength.res0D : EncodedLength.Statement .res0D := show 2 = opcodeLength 0xCB by decide
theorem EncodedLength.res0E : EncodedLength.Statement .res0E := show 2 = opcodeLength 0xCB by decide
theorem EncodedLength.res0H : EncodedLength.Statement .res0H := show 2 = opcodeLength 0xCB by decide
theorem EncodedLength.res0L : EncodedLength.Statement .res0L := show 2 = opcodeLength 0xCB by decide
theorem EncodedLength.res0AtHl : EncodedLength.Statement .res0AtHl := show 2 = opcodeLength 0xCB by decide
theorem EncodedLength.res0A : EncodedLength.Statement .res0A := show 2 = opcodeLength 0xCB by decide
theorem EncodedLength.res1B : EncodedLength.Statement .res1B := show 2 = opcodeLength 0xCB by decide
theorem EncodedLength.res1C : EncodedLength.Statement .res1C := show 2 = opcodeLength 0xCB by decide
theorem EncodedLength.res1D : EncodedLength.Statement .res1D := show 2 = opcodeLength 0xCB by decide
theorem EncodedLength.res1E : EncodedLength.Statement .res1E := show 2 = opcodeLength 0xCB by decide
theorem EncodedLength.res1H : EncodedLength.Statement .res1H := show 2 = opcodeLength 0xCB by decide
theorem EncodedLength.res1L : EncodedLength.Statement .res1L := show 2 = opcodeLength 0xCB by decide
theorem EncodedLength.res1AtHl : EncodedLength.Statement .res1AtHl := show 2 = opcodeLength 0xCB by decide
theorem EncodedLength.res1A : EncodedLength.Statement .res1A := show 2 = opcodeLength 0xCB by decide
theorem EncodedLength.res2B : EncodedLength.Statement .res2B := show 2 = opcodeLength 0xCB by decide
theorem EncodedLength.res2C : EncodedLength.Statement .res2C := show 2 = opcodeLength 0xCB by decide
theorem EncodedLength.res2D : EncodedLength.Statement .res2D := show 2 = opcodeLength 0xCB by decide
theorem EncodedLength.res2E : EncodedLength.Statement .res2E := show 2 = opcodeLength 0xCB by decide
theorem EncodedLength.res2H : EncodedLength.Statement .res2H := show 2 = opcodeLength 0xCB by decide
theorem EncodedLength.res2L : EncodedLength.Statement .res2L := show 2 = opcodeLength 0xCB by decide
theorem EncodedLength.res2AtHl : EncodedLength.Statement .res2AtHl := show 2 = opcodeLength 0xCB by decide
theorem EncodedLength.res2A : EncodedLength.Statement .res2A := show 2 = opcodeLength 0xCB by decide
theorem EncodedLength.res3B : EncodedLength.Statement .res3B := show 2 = opcodeLength 0xCB by decide
theorem EncodedLength.res3C : EncodedLength.Statement .res3C := show 2 = opcodeLength 0xCB by decide
theorem EncodedLength.res3D : EncodedLength.Statement .res3D := show 2 = opcodeLength 0xCB by decide
theorem EncodedLength.res3E : EncodedLength.Statement .res3E := show 2 = opcodeLength 0xCB by decide
theorem EncodedLength.res3H : EncodedLength.Statement .res3H := show 2 = opcodeLength 0xCB by decide
theorem EncodedLength.res3L : EncodedLength.Statement .res3L := show 2 = opcodeLength 0xCB by decide
theorem EncodedLength.res3AtHl : EncodedLength.Statement .res3AtHl := show 2 = opcodeLength 0xCB by decide
theorem EncodedLength.res3A : EncodedLength.Statement .res3A := show 2 = opcodeLength 0xCB by decide
theorem EncodedLength.res4B : EncodedLength.Statement .res4B := show 2 = opcodeLength 0xCB by decide
theorem EncodedLength.res4C : EncodedLength.Statement .res4C := show 2 = opcodeLength 0xCB by decide
theorem EncodedLength.res4D : EncodedLength.Statement .res4D := show 2 = opcodeLength 0xCB by decide
theorem EncodedLength.res4E : EncodedLength.Statement .res4E := show 2 = opcodeLength 0xCB by decide
theorem EncodedLength.res4H : EncodedLength.Statement .res4H := show 2 = opcodeLength 0xCB by decide
theorem EncodedLength.res4L : EncodedLength.Statement .res4L := show 2 = opcodeLength 0xCB by decide
theorem EncodedLength.res4AtHl : EncodedLength.Statement .res4AtHl := show 2 = opcodeLength 0xCB by decide
theorem EncodedLength.res4A : EncodedLength.Statement .res4A := show 2 = opcodeLength 0xCB by decide
theorem EncodedLength.res5B : EncodedLength.Statement .res5B := show 2 = opcodeLength 0xCB by decide
theorem EncodedLength.res5C : EncodedLength.Statement .res5C := show 2 = opcodeLength 0xCB by decide
theorem EncodedLength.res5D : EncodedLength.Statement .res5D := show 2 = opcodeLength 0xCB by decide
theorem EncodedLength.res5E : EncodedLength.Statement .res5E := show 2 = opcodeLength 0xCB by decide
theorem EncodedLength.res5H : EncodedLength.Statement .res5H := show 2 = opcodeLength 0xCB by decide
theorem EncodedLength.res5L : EncodedLength.Statement .res5L := show 2 = opcodeLength 0xCB by decide
theorem EncodedLength.res5AtHl : EncodedLength.Statement .res5AtHl := show 2 = opcodeLength 0xCB by decide
theorem EncodedLength.res5A : EncodedLength.Statement .res5A := show 2 = opcodeLength 0xCB by decide
theorem EncodedLength.res6B : EncodedLength.Statement .res6B := show 2 = opcodeLength 0xCB by decide
theorem EncodedLength.res6C : EncodedLength.Statement .res6C := show 2 = opcodeLength 0xCB by decide
theorem EncodedLength.res6D : EncodedLength.Statement .res6D := show 2 = opcodeLength 0xCB by decide
theorem EncodedLength.res6E : EncodedLength.Statement .res6E := show 2 = opcodeLength 0xCB by decide
theorem EncodedLength.res6H : EncodedLength.Statement .res6H := show 2 = opcodeLength 0xCB by decide
theorem EncodedLength.res6L : EncodedLength.Statement .res6L := show 2 = opcodeLength 0xCB by decide
theorem EncodedLength.res6AtHl : EncodedLength.Statement .res6AtHl := show 2 = opcodeLength 0xCB by decide
theorem EncodedLength.res6A : EncodedLength.Statement .res6A := show 2 = opcodeLength 0xCB by decide
theorem EncodedLength.res7B : EncodedLength.Statement .res7B := show 2 = opcodeLength 0xCB by decide
theorem EncodedLength.res7C : EncodedLength.Statement .res7C := show 2 = opcodeLength 0xCB by decide
theorem EncodedLength.res7D : EncodedLength.Statement .res7D := show 2 = opcodeLength 0xCB by decide
theorem EncodedLength.res7E : EncodedLength.Statement .res7E := show 2 = opcodeLength 0xCB by decide
theorem EncodedLength.res7H : EncodedLength.Statement .res7H := show 2 = opcodeLength 0xCB by decide
theorem EncodedLength.res7L : EncodedLength.Statement .res7L := show 2 = opcodeLength 0xCB by decide
theorem EncodedLength.res7AtHl : EncodedLength.Statement .res7AtHl := show 2 = opcodeLength 0xCB by decide
theorem EncodedLength.res7A : EncodedLength.Statement .res7A := show 2 = opcodeLength 0xCB by decide
theorem EncodedLength.set0B : EncodedLength.Statement .set0B := show 2 = opcodeLength 0xCB by decide
theorem EncodedLength.set0C : EncodedLength.Statement .set0C := show 2 = opcodeLength 0xCB by decide
theorem EncodedLength.set0D : EncodedLength.Statement .set0D := show 2 = opcodeLength 0xCB by decide
theorem EncodedLength.set0E : EncodedLength.Statement .set0E := show 2 = opcodeLength 0xCB by decide
theorem EncodedLength.set0H : EncodedLength.Statement .set0H := show 2 = opcodeLength 0xCB by decide
theorem EncodedLength.set0L : EncodedLength.Statement .set0L := show 2 = opcodeLength 0xCB by decide
theorem EncodedLength.set0AtHl : EncodedLength.Statement .set0AtHl := show 2 = opcodeLength 0xCB by decide
theorem EncodedLength.set0A : EncodedLength.Statement .set0A := show 2 = opcodeLength 0xCB by decide
theorem EncodedLength.set1B : EncodedLength.Statement .set1B := show 2 = opcodeLength 0xCB by decide
theorem EncodedLength.set1C : EncodedLength.Statement .set1C := show 2 = opcodeLength 0xCB by decide
theorem EncodedLength.set1D : EncodedLength.Statement .set1D := show 2 = opcodeLength 0xCB by decide
theorem EncodedLength.set1E : EncodedLength.Statement .set1E := show 2 = opcodeLength 0xCB by decide
theorem EncodedLength.set1H : EncodedLength.Statement .set1H := show 2 = opcodeLength 0xCB by decide
theorem EncodedLength.set1L : EncodedLength.Statement .set1L := show 2 = opcodeLength 0xCB by decide
theorem EncodedLength.set1AtHl : EncodedLength.Statement .set1AtHl := show 2 = opcodeLength 0xCB by decide
theorem EncodedLength.set1A : EncodedLength.Statement .set1A := show 2 = opcodeLength 0xCB by decide
theorem EncodedLength.set2B : EncodedLength.Statement .set2B := show 2 = opcodeLength 0xCB by decide
theorem EncodedLength.set2C : EncodedLength.Statement .set2C := show 2 = opcodeLength 0xCB by decide
theorem EncodedLength.set2D : EncodedLength.Statement .set2D := show 2 = opcodeLength 0xCB by decide
theorem EncodedLength.set2E : EncodedLength.Statement .set2E := show 2 = opcodeLength 0xCB by decide
theorem EncodedLength.set2H : EncodedLength.Statement .set2H := show 2 = opcodeLength 0xCB by decide
theorem EncodedLength.set2L : EncodedLength.Statement .set2L := show 2 = opcodeLength 0xCB by decide
theorem EncodedLength.set2AtHl : EncodedLength.Statement .set2AtHl := show 2 = opcodeLength 0xCB by decide
theorem EncodedLength.set2A : EncodedLength.Statement .set2A := show 2 = opcodeLength 0xCB by decide
theorem EncodedLength.set3B : EncodedLength.Statement .set3B := show 2 = opcodeLength 0xCB by decide
theorem EncodedLength.set3C : EncodedLength.Statement .set3C := show 2 = opcodeLength 0xCB by decide
theorem EncodedLength.set3D : EncodedLength.Statement .set3D := show 2 = opcodeLength 0xCB by decide
theorem EncodedLength.set3E : EncodedLength.Statement .set3E := show 2 = opcodeLength 0xCB by decide
theorem EncodedLength.set3H : EncodedLength.Statement .set3H := show 2 = opcodeLength 0xCB by decide
theorem EncodedLength.set3L : EncodedLength.Statement .set3L := show 2 = opcodeLength 0xCB by decide
theorem EncodedLength.set3AtHl : EncodedLength.Statement .set3AtHl := show 2 = opcodeLength 0xCB by decide
theorem EncodedLength.set3A : EncodedLength.Statement .set3A := show 2 = opcodeLength 0xCB by decide
theorem EncodedLength.set4B : EncodedLength.Statement .set4B := show 2 = opcodeLength 0xCB by decide
theorem EncodedLength.set4C : EncodedLength.Statement .set4C := show 2 = opcodeLength 0xCB by decide
theorem EncodedLength.set4D : EncodedLength.Statement .set4D := show 2 = opcodeLength 0xCB by decide
theorem EncodedLength.set4E : EncodedLength.Statement .set4E := show 2 = opcodeLength 0xCB by decide
theorem EncodedLength.set4H : EncodedLength.Statement .set4H := show 2 = opcodeLength 0xCB by decide
theorem EncodedLength.set4L : EncodedLength.Statement .set4L := show 2 = opcodeLength 0xCB by decide
theorem EncodedLength.set4AtHl : EncodedLength.Statement .set4AtHl := show 2 = opcodeLength 0xCB by decide
theorem EncodedLength.set4A : EncodedLength.Statement .set4A := show 2 = opcodeLength 0xCB by decide
theorem EncodedLength.set5B : EncodedLength.Statement .set5B := show 2 = opcodeLength 0xCB by decide
theorem EncodedLength.set5C : EncodedLength.Statement .set5C := show 2 = opcodeLength 0xCB by decide
theorem EncodedLength.set5D : EncodedLength.Statement .set5D := show 2 = opcodeLength 0xCB by decide
theorem EncodedLength.set5E : EncodedLength.Statement .set5E := show 2 = opcodeLength 0xCB by decide
theorem EncodedLength.set5H : EncodedLength.Statement .set5H := show 2 = opcodeLength 0xCB by decide
theorem EncodedLength.set5L : EncodedLength.Statement .set5L := show 2 = opcodeLength 0xCB by decide
theorem EncodedLength.set5AtHl : EncodedLength.Statement .set5AtHl := show 2 = opcodeLength 0xCB by decide
theorem EncodedLength.set5A : EncodedLength.Statement .set5A := show 2 = opcodeLength 0xCB by decide
theorem EncodedLength.set6B : EncodedLength.Statement .set6B := show 2 = opcodeLength 0xCB by decide
theorem EncodedLength.set6C : EncodedLength.Statement .set6C := show 2 = opcodeLength 0xCB by decide
theorem EncodedLength.set6D : EncodedLength.Statement .set6D := show 2 = opcodeLength 0xCB by decide
theorem EncodedLength.set6E : EncodedLength.Statement .set6E := show 2 = opcodeLength 0xCB by decide
theorem EncodedLength.set6H : EncodedLength.Statement .set6H := show 2 = opcodeLength 0xCB by decide
theorem EncodedLength.set6L : EncodedLength.Statement .set6L := show 2 = opcodeLength 0xCB by decide
theorem EncodedLength.set6AtHl : EncodedLength.Statement .set6AtHl := show 2 = opcodeLength 0xCB by decide
theorem EncodedLength.set6A : EncodedLength.Statement .set6A := show 2 = opcodeLength 0xCB by decide
theorem EncodedLength.set7B : EncodedLength.Statement .set7B := show 2 = opcodeLength 0xCB by decide
theorem EncodedLength.set7C : EncodedLength.Statement .set7C := show 2 = opcodeLength 0xCB by decide
theorem EncodedLength.set7D : EncodedLength.Statement .set7D := show 2 = opcodeLength 0xCB by decide
theorem EncodedLength.set7E : EncodedLength.Statement .set7E := show 2 = opcodeLength 0xCB by decide
theorem EncodedLength.set7H : EncodedLength.Statement .set7H := show 2 = opcodeLength 0xCB by decide
theorem EncodedLength.set7L : EncodedLength.Statement .set7L := show 2 = opcodeLength 0xCB by decide
theorem EncodedLength.set7AtHl : EncodedLength.Statement .set7AtHl := show 2 = opcodeLength 0xCB by decide
theorem EncodedLength.set7A : EncodedLength.Statement .set7A := show 2 = opcodeLength 0xCB by decide

/-- The bytes of the encoding select the instruction (R114 to R119). -/
def Selects.Statement (i : Instr) : Prop := i.WellFormed = true → decodeFrom (byteAt (encode i)) = .ok i

/-- An operand byte read as a displacement in range (R112). -/
theorem s8_u8_inRange {e : Int} (h : dispInRange e = true) : s8 (u8 e) = e := by
  simp only [dispInRange, Bool.and_eq_true, decide_eq_true_eq] at h
  exact s8_u8 e h.1 h.2

theorem Selects.ldBcNn (nn : Word) : Selects.Statement (.ldBcNn nn) := fun _ => congrArg (fun x => Except.ok (Instr.ldBcNn x)) (joinBytes_bytes nn)
theorem Selects.ldBN (n : Byte) : Selects.Statement (.ldBN n) := fun _ => rfl
theorem Selects.ldAtNnSp (nn : Word) : Selects.Statement (.ldAtNnSp nn) := fun _ => congrArg (fun x => Except.ok (Instr.ldAtNnSp x)) (joinBytes_bytes nn)
theorem Selects.ldCN (n : Byte) : Selects.Statement (.ldCN n) := fun _ => rfl
theorem Selects.ldDeNn (nn : Word) : Selects.Statement (.ldDeNn nn) := fun _ => congrArg (fun x => Except.ok (Instr.ldDeNn x)) (joinBytes_bytes nn)
theorem Selects.ldDN (n : Byte) : Selects.Statement (.ldDN n) := fun _ => rfl
theorem Selects.jrE (e : Int) : Selects.Statement (.jrE e) := fun h => congrArg (fun x => Except.ok (Instr.jrE x)) (s8_u8_inRange h)
theorem Selects.ldEN (n : Byte) : Selects.Statement (.ldEN n) := fun _ => rfl
theorem Selects.jrNzE (e : Int) : Selects.Statement (.jrNzE e) := fun h => congrArg (fun x => Except.ok (Instr.jrNzE x)) (s8_u8_inRange h)
theorem Selects.ldHlNn (nn : Word) : Selects.Statement (.ldHlNn nn) := fun _ => congrArg (fun x => Except.ok (Instr.ldHlNn x)) (joinBytes_bytes nn)
theorem Selects.ldHN (n : Byte) : Selects.Statement (.ldHN n) := fun _ => rfl
theorem Selects.jrZE (e : Int) : Selects.Statement (.jrZE e) := fun h => congrArg (fun x => Except.ok (Instr.jrZE x)) (s8_u8_inRange h)
theorem Selects.ldLN (n : Byte) : Selects.Statement (.ldLN n) := fun _ => rfl
theorem Selects.jrNcE (e : Int) : Selects.Statement (.jrNcE e) := fun h => congrArg (fun x => Except.ok (Instr.jrNcE x)) (s8_u8_inRange h)
theorem Selects.ldSpNn (nn : Word) : Selects.Statement (.ldSpNn nn) := fun _ => congrArg (fun x => Except.ok (Instr.ldSpNn x)) (joinBytes_bytes nn)
theorem Selects.ldAtHlN (n : Byte) : Selects.Statement (.ldAtHlN n) := fun _ => rfl
theorem Selects.jrCE (e : Int) : Selects.Statement (.jrCE e) := fun h => congrArg (fun x => Except.ok (Instr.jrCE x)) (s8_u8_inRange h)
theorem Selects.ldAN (n : Byte) : Selects.Statement (.ldAN n) := fun _ => rfl
theorem Selects.jpNzNn (nn : Word) : Selects.Statement (.jpNzNn nn) := fun _ => congrArg (fun x => Except.ok (Instr.jpNzNn x)) (joinBytes_bytes nn)
theorem Selects.jpNn (nn : Word) : Selects.Statement (.jpNn nn) := fun _ => congrArg (fun x => Except.ok (Instr.jpNn x)) (joinBytes_bytes nn)
theorem Selects.callNzNn (nn : Word) : Selects.Statement (.callNzNn nn) := fun _ => congrArg (fun x => Except.ok (Instr.callNzNn x)) (joinBytes_bytes nn)
theorem Selects.addAN (n : Byte) : Selects.Statement (.addAN n) := fun _ => rfl
theorem Selects.jpZNn (nn : Word) : Selects.Statement (.jpZNn nn) := fun _ => congrArg (fun x => Except.ok (Instr.jpZNn x)) (joinBytes_bytes nn)
theorem Selects.callZNn (nn : Word) : Selects.Statement (.callZNn nn) := fun _ => congrArg (fun x => Except.ok (Instr.callZNn x)) (joinBytes_bytes nn)
theorem Selects.callNn (nn : Word) : Selects.Statement (.callNn nn) := fun _ => congrArg (fun x => Except.ok (Instr.callNn x)) (joinBytes_bytes nn)
theorem Selects.adcAN (n : Byte) : Selects.Statement (.adcAN n) := fun _ => rfl
theorem Selects.jpNcNn (nn : Word) : Selects.Statement (.jpNcNn nn) := fun _ => congrArg (fun x => Except.ok (Instr.jpNcNn x)) (joinBytes_bytes nn)
theorem Selects.callNcNn (nn : Word) : Selects.Statement (.callNcNn nn) := fun _ => congrArg (fun x => Except.ok (Instr.callNcNn x)) (joinBytes_bytes nn)
theorem Selects.subAN (n : Byte) : Selects.Statement (.subAN n) := fun _ => rfl
theorem Selects.jpCNn (nn : Word) : Selects.Statement (.jpCNn nn) := fun _ => congrArg (fun x => Except.ok (Instr.jpCNn x)) (joinBytes_bytes nn)
theorem Selects.callCNn (nn : Word) : Selects.Statement (.callCNn nn) := fun _ => congrArg (fun x => Except.ok (Instr.callCNn x)) (joinBytes_bytes nn)
theorem Selects.sbcAN (n : Byte) : Selects.Statement (.sbcAN n) := fun _ => rfl
theorem Selects.ldhAtNA (n : Byte) : Selects.Statement (.ldhAtNA n) := fun _ => rfl
theorem Selects.andAN (n : Byte) : Selects.Statement (.andAN n) := fun _ => rfl
theorem Selects.addSpE (e : Int) : Selects.Statement (.addSpE e) := fun h => congrArg (fun x => Except.ok (Instr.addSpE x)) (s8_u8_inRange h)
theorem Selects.ldAtNnA (nn : Word) : Selects.Statement (.ldAtNnA nn) := fun _ => congrArg (fun x => Except.ok (Instr.ldAtNnA x)) (joinBytes_bytes nn)
theorem Selects.xorAN (n : Byte) : Selects.Statement (.xorAN n) := fun _ => rfl
theorem Selects.ldhAAtN (n : Byte) : Selects.Statement (.ldhAAtN n) := fun _ => rfl
theorem Selects.orAN (n : Byte) : Selects.Statement (.orAN n) := fun _ => rfl
theorem Selects.ldHlSpE (e : Int) : Selects.Statement (.ldHlSpE e) := fun h => congrArg (fun x => Except.ok (Instr.ldHlSpE x)) (s8_u8_inRange h)
theorem Selects.ldAAtNn (nn : Word) : Selects.Statement (.ldAAtNn nn) := fun _ => congrArg (fun x => Except.ok (Instr.ldAAtNn x)) (joinBytes_bytes nn)
theorem Selects.cpAN (n : Byte) : Selects.Statement (.cpAN n) := fun _ => rfl
theorem Selects.nop : Selects.Statement .nop := fun _ => rfl
theorem Selects.ldAtBcA : Selects.Statement .ldAtBcA := fun _ => rfl
theorem Selects.incBc : Selects.Statement .incBc := fun _ => rfl
theorem Selects.incB : Selects.Statement .incB := fun _ => rfl
theorem Selects.decB : Selects.Statement .decB := fun _ => rfl
theorem Selects.rlca : Selects.Statement .rlca := fun _ => rfl
theorem Selects.addHlBc : Selects.Statement .addHlBc := fun _ => rfl
theorem Selects.ldAAtBc : Selects.Statement .ldAAtBc := fun _ => rfl
theorem Selects.decBc : Selects.Statement .decBc := fun _ => rfl
theorem Selects.incC : Selects.Statement .incC := fun _ => rfl
theorem Selects.decC : Selects.Statement .decC := fun _ => rfl
theorem Selects.rrca : Selects.Statement .rrca := fun _ => rfl
theorem Selects.stop : Selects.Statement .stop := fun _ => rfl
theorem Selects.ldAtDeA : Selects.Statement .ldAtDeA := fun _ => rfl
theorem Selects.incDe : Selects.Statement .incDe := fun _ => rfl
theorem Selects.incD : Selects.Statement .incD := fun _ => rfl
theorem Selects.decD : Selects.Statement .decD := fun _ => rfl
theorem Selects.rla : Selects.Statement .rla := fun _ => rfl
theorem Selects.addHlDe : Selects.Statement .addHlDe := fun _ => rfl
theorem Selects.ldAAtDe : Selects.Statement .ldAAtDe := fun _ => rfl
theorem Selects.decDe : Selects.Statement .decDe := fun _ => rfl
theorem Selects.incE : Selects.Statement .incE := fun _ => rfl
theorem Selects.decE : Selects.Statement .decE := fun _ => rfl
theorem Selects.rra : Selects.Statement .rra := fun _ => rfl
theorem Selects.ldAtHlIncA : Selects.Statement .ldAtHlIncA := fun _ => rfl
theorem Selects.incHl : Selects.Statement .incHl := fun _ => rfl
theorem Selects.incH : Selects.Statement .incH := fun _ => rfl
theorem Selects.decH : Selects.Statement .decH := fun _ => rfl
theorem Selects.daa : Selects.Statement .daa := fun _ => rfl
theorem Selects.addHlHl : Selects.Statement .addHlHl := fun _ => rfl
theorem Selects.ldAAtHlInc : Selects.Statement .ldAAtHlInc := fun _ => rfl
theorem Selects.decHl : Selects.Statement .decHl := fun _ => rfl
theorem Selects.incL : Selects.Statement .incL := fun _ => rfl
theorem Selects.decL : Selects.Statement .decL := fun _ => rfl
theorem Selects.cpl : Selects.Statement .cpl := fun _ => rfl
theorem Selects.ldAtHlDecA : Selects.Statement .ldAtHlDecA := fun _ => rfl
theorem Selects.incSp : Selects.Statement .incSp := fun _ => rfl
theorem Selects.incAtHl : Selects.Statement .incAtHl := fun _ => rfl
theorem Selects.decAtHl : Selects.Statement .decAtHl := fun _ => rfl
theorem Selects.scf : Selects.Statement .scf := fun _ => rfl
theorem Selects.addHlSp : Selects.Statement .addHlSp := fun _ => rfl
theorem Selects.ldAAtHlDec : Selects.Statement .ldAAtHlDec := fun _ => rfl
theorem Selects.decSp : Selects.Statement .decSp := fun _ => rfl
theorem Selects.incA : Selects.Statement .incA := fun _ => rfl
theorem Selects.decA : Selects.Statement .decA := fun _ => rfl
theorem Selects.ccf : Selects.Statement .ccf := fun _ => rfl
theorem Selects.ldBB : Selects.Statement .ldBB := fun _ => rfl
theorem Selects.ldBC : Selects.Statement .ldBC := fun _ => rfl
theorem Selects.ldBD : Selects.Statement .ldBD := fun _ => rfl
theorem Selects.ldBE : Selects.Statement .ldBE := fun _ => rfl
theorem Selects.ldBH : Selects.Statement .ldBH := fun _ => rfl
theorem Selects.ldBL : Selects.Statement .ldBL := fun _ => rfl
theorem Selects.ldBAtHl : Selects.Statement .ldBAtHl := fun _ => rfl
theorem Selects.ldBA : Selects.Statement .ldBA := fun _ => rfl
theorem Selects.ldCB : Selects.Statement .ldCB := fun _ => rfl
theorem Selects.ldCC : Selects.Statement .ldCC := fun _ => rfl
theorem Selects.ldCD : Selects.Statement .ldCD := fun _ => rfl
theorem Selects.ldCE : Selects.Statement .ldCE := fun _ => rfl
theorem Selects.ldCH : Selects.Statement .ldCH := fun _ => rfl
theorem Selects.ldCL : Selects.Statement .ldCL := fun _ => rfl
theorem Selects.ldCAtHl : Selects.Statement .ldCAtHl := fun _ => rfl
theorem Selects.ldCA : Selects.Statement .ldCA := fun _ => rfl
theorem Selects.ldDB : Selects.Statement .ldDB := fun _ => rfl
theorem Selects.ldDC : Selects.Statement .ldDC := fun _ => rfl
theorem Selects.ldDD : Selects.Statement .ldDD := fun _ => rfl
theorem Selects.ldDE : Selects.Statement .ldDE := fun _ => rfl
theorem Selects.ldDH : Selects.Statement .ldDH := fun _ => rfl
theorem Selects.ldDL : Selects.Statement .ldDL := fun _ => rfl
theorem Selects.ldDAtHl : Selects.Statement .ldDAtHl := fun _ => rfl
theorem Selects.ldDA : Selects.Statement .ldDA := fun _ => rfl
theorem Selects.ldEB : Selects.Statement .ldEB := fun _ => rfl
theorem Selects.ldEC : Selects.Statement .ldEC := fun _ => rfl
theorem Selects.ldED : Selects.Statement .ldED := fun _ => rfl
theorem Selects.ldEE : Selects.Statement .ldEE := fun _ => rfl
theorem Selects.ldEH : Selects.Statement .ldEH := fun _ => rfl
theorem Selects.ldEL : Selects.Statement .ldEL := fun _ => rfl
theorem Selects.ldEAtHl : Selects.Statement .ldEAtHl := fun _ => rfl
theorem Selects.ldEA : Selects.Statement .ldEA := fun _ => rfl
theorem Selects.ldHB : Selects.Statement .ldHB := fun _ => rfl
theorem Selects.ldHC : Selects.Statement .ldHC := fun _ => rfl
theorem Selects.ldHD : Selects.Statement .ldHD := fun _ => rfl
theorem Selects.ldHE : Selects.Statement .ldHE := fun _ => rfl
theorem Selects.ldHH : Selects.Statement .ldHH := fun _ => rfl
theorem Selects.ldHL : Selects.Statement .ldHL := fun _ => rfl
theorem Selects.ldHAtHl : Selects.Statement .ldHAtHl := fun _ => rfl
theorem Selects.ldHA : Selects.Statement .ldHA := fun _ => rfl
theorem Selects.ldLB : Selects.Statement .ldLB := fun _ => rfl
theorem Selects.ldLC : Selects.Statement .ldLC := fun _ => rfl
theorem Selects.ldLD : Selects.Statement .ldLD := fun _ => rfl
theorem Selects.ldLE : Selects.Statement .ldLE := fun _ => rfl
theorem Selects.ldLH : Selects.Statement .ldLH := fun _ => rfl
theorem Selects.ldLL : Selects.Statement .ldLL := fun _ => rfl
theorem Selects.ldLAtHl : Selects.Statement .ldLAtHl := fun _ => rfl
theorem Selects.ldLA : Selects.Statement .ldLA := fun _ => rfl
theorem Selects.ldAtHlB : Selects.Statement .ldAtHlB := fun _ => rfl
theorem Selects.ldAtHlC : Selects.Statement .ldAtHlC := fun _ => rfl
theorem Selects.ldAtHlD : Selects.Statement .ldAtHlD := fun _ => rfl
theorem Selects.ldAtHlE : Selects.Statement .ldAtHlE := fun _ => rfl
theorem Selects.ldAtHlH : Selects.Statement .ldAtHlH := fun _ => rfl
theorem Selects.ldAtHlL : Selects.Statement .ldAtHlL := fun _ => rfl
theorem Selects.halt : Selects.Statement .halt := fun _ => rfl
theorem Selects.ldAtHlA : Selects.Statement .ldAtHlA := fun _ => rfl
theorem Selects.ldAB : Selects.Statement .ldAB := fun _ => rfl
theorem Selects.ldAC : Selects.Statement .ldAC := fun _ => rfl
theorem Selects.ldAD : Selects.Statement .ldAD := fun _ => rfl
theorem Selects.ldAE : Selects.Statement .ldAE := fun _ => rfl
theorem Selects.ldAH : Selects.Statement .ldAH := fun _ => rfl
theorem Selects.ldAL : Selects.Statement .ldAL := fun _ => rfl
theorem Selects.ldAAtHl : Selects.Statement .ldAAtHl := fun _ => rfl
theorem Selects.ldAA : Selects.Statement .ldAA := fun _ => rfl
theorem Selects.addAB : Selects.Statement .addAB := fun _ => rfl
theorem Selects.addAC : Selects.Statement .addAC := fun _ => rfl
theorem Selects.addAD : Selects.Statement .addAD := fun _ => rfl
theorem Selects.addAE : Selects.Statement .addAE := fun _ => rfl
theorem Selects.addAH : Selects.Statement .addAH := fun _ => rfl
theorem Selects.addAL : Selects.Statement .addAL := fun _ => rfl
theorem Selects.addAAtHl : Selects.Statement .addAAtHl := fun _ => rfl
theorem Selects.addAA : Selects.Statement .addAA := fun _ => rfl
theorem Selects.adcAB : Selects.Statement .adcAB := fun _ => rfl
theorem Selects.adcAC : Selects.Statement .adcAC := fun _ => rfl
theorem Selects.adcAD : Selects.Statement .adcAD := fun _ => rfl
theorem Selects.adcAE : Selects.Statement .adcAE := fun _ => rfl
theorem Selects.adcAH : Selects.Statement .adcAH := fun _ => rfl
theorem Selects.adcAL : Selects.Statement .adcAL := fun _ => rfl
theorem Selects.adcAAtHl : Selects.Statement .adcAAtHl := fun _ => rfl
theorem Selects.adcAA : Selects.Statement .adcAA := fun _ => rfl
theorem Selects.subAB : Selects.Statement .subAB := fun _ => rfl
theorem Selects.subAC : Selects.Statement .subAC := fun _ => rfl
theorem Selects.subAD : Selects.Statement .subAD := fun _ => rfl
theorem Selects.subAE : Selects.Statement .subAE := fun _ => rfl
theorem Selects.subAH : Selects.Statement .subAH := fun _ => rfl
theorem Selects.subAL : Selects.Statement .subAL := fun _ => rfl
theorem Selects.subAAtHl : Selects.Statement .subAAtHl := fun _ => rfl
theorem Selects.subAA : Selects.Statement .subAA := fun _ => rfl
theorem Selects.sbcAB : Selects.Statement .sbcAB := fun _ => rfl
theorem Selects.sbcAC : Selects.Statement .sbcAC := fun _ => rfl
theorem Selects.sbcAD : Selects.Statement .sbcAD := fun _ => rfl
theorem Selects.sbcAE : Selects.Statement .sbcAE := fun _ => rfl
theorem Selects.sbcAH : Selects.Statement .sbcAH := fun _ => rfl
theorem Selects.sbcAL : Selects.Statement .sbcAL := fun _ => rfl
theorem Selects.sbcAAtHl : Selects.Statement .sbcAAtHl := fun _ => rfl
theorem Selects.sbcAA : Selects.Statement .sbcAA := fun _ => rfl
theorem Selects.andAB : Selects.Statement .andAB := fun _ => rfl
theorem Selects.andAC : Selects.Statement .andAC := fun _ => rfl
theorem Selects.andAD : Selects.Statement .andAD := fun _ => rfl
theorem Selects.andAE : Selects.Statement .andAE := fun _ => rfl
theorem Selects.andAH : Selects.Statement .andAH := fun _ => rfl
theorem Selects.andAL : Selects.Statement .andAL := fun _ => rfl
theorem Selects.andAAtHl : Selects.Statement .andAAtHl := fun _ => rfl
theorem Selects.andAA : Selects.Statement .andAA := fun _ => rfl
theorem Selects.xorAB : Selects.Statement .xorAB := fun _ => rfl
theorem Selects.xorAC : Selects.Statement .xorAC := fun _ => rfl
theorem Selects.xorAD : Selects.Statement .xorAD := fun _ => rfl
theorem Selects.xorAE : Selects.Statement .xorAE := fun _ => rfl
theorem Selects.xorAH : Selects.Statement .xorAH := fun _ => rfl
theorem Selects.xorAL : Selects.Statement .xorAL := fun _ => rfl
theorem Selects.xorAAtHl : Selects.Statement .xorAAtHl := fun _ => rfl
theorem Selects.xorAA : Selects.Statement .xorAA := fun _ => rfl
theorem Selects.orAB : Selects.Statement .orAB := fun _ => rfl
theorem Selects.orAC : Selects.Statement .orAC := fun _ => rfl
theorem Selects.orAD : Selects.Statement .orAD := fun _ => rfl
theorem Selects.orAE : Selects.Statement .orAE := fun _ => rfl
theorem Selects.orAH : Selects.Statement .orAH := fun _ => rfl
theorem Selects.orAL : Selects.Statement .orAL := fun _ => rfl
theorem Selects.orAAtHl : Selects.Statement .orAAtHl := fun _ => rfl
theorem Selects.orAA : Selects.Statement .orAA := fun _ => rfl
theorem Selects.cpAB : Selects.Statement .cpAB := fun _ => rfl
theorem Selects.cpAC : Selects.Statement .cpAC := fun _ => rfl
theorem Selects.cpAD : Selects.Statement .cpAD := fun _ => rfl
theorem Selects.cpAE : Selects.Statement .cpAE := fun _ => rfl
theorem Selects.cpAH : Selects.Statement .cpAH := fun _ => rfl
theorem Selects.cpAL : Selects.Statement .cpAL := fun _ => rfl
theorem Selects.cpAAtHl : Selects.Statement .cpAAtHl := fun _ => rfl
theorem Selects.cpAA : Selects.Statement .cpAA := fun _ => rfl
theorem Selects.retNz : Selects.Statement .retNz := fun _ => rfl
theorem Selects.popBc : Selects.Statement .popBc := fun _ => rfl
theorem Selects.pushBc : Selects.Statement .pushBc := fun _ => rfl
theorem Selects.rst00 : Selects.Statement .rst00 := fun _ => rfl
theorem Selects.retZ : Selects.Statement .retZ := fun _ => rfl
theorem Selects.ret : Selects.Statement .ret := fun _ => rfl
theorem Selects.rst08 : Selects.Statement .rst08 := fun _ => rfl
theorem Selects.retNc : Selects.Statement .retNc := fun _ => rfl
theorem Selects.popDe : Selects.Statement .popDe := fun _ => rfl
theorem Selects.illegalD3 : Selects.Statement .illegalD3 := fun _ => rfl
theorem Selects.pushDe : Selects.Statement .pushDe := fun _ => rfl
theorem Selects.rst10 : Selects.Statement .rst10 := fun _ => rfl
theorem Selects.retC : Selects.Statement .retC := fun _ => rfl
theorem Selects.reti : Selects.Statement .reti := fun _ => rfl
theorem Selects.illegalDB : Selects.Statement .illegalDB := fun _ => rfl
theorem Selects.illegalDD : Selects.Statement .illegalDD := fun _ => rfl
theorem Selects.rst18 : Selects.Statement .rst18 := fun _ => rfl
theorem Selects.popHl : Selects.Statement .popHl := fun _ => rfl
theorem Selects.ldhAtCA : Selects.Statement .ldhAtCA := fun _ => rfl
theorem Selects.illegalE3 : Selects.Statement .illegalE3 := fun _ => rfl
theorem Selects.illegalE4 : Selects.Statement .illegalE4 := fun _ => rfl
theorem Selects.pushHl : Selects.Statement .pushHl := fun _ => rfl
theorem Selects.rst20 : Selects.Statement .rst20 := fun _ => rfl
theorem Selects.jpHl : Selects.Statement .jpHl := fun _ => rfl
theorem Selects.illegalEB : Selects.Statement .illegalEB := fun _ => rfl
theorem Selects.illegalEC : Selects.Statement .illegalEC := fun _ => rfl
theorem Selects.illegalED : Selects.Statement .illegalED := fun _ => rfl
theorem Selects.rst28 : Selects.Statement .rst28 := fun _ => rfl
theorem Selects.popAf : Selects.Statement .popAf := fun _ => rfl
theorem Selects.ldhAAtC : Selects.Statement .ldhAAtC := fun _ => rfl
theorem Selects.di : Selects.Statement .di := fun _ => rfl
theorem Selects.illegalF4 : Selects.Statement .illegalF4 := fun _ => rfl
theorem Selects.pushAf : Selects.Statement .pushAf := fun _ => rfl
theorem Selects.rst30 : Selects.Statement .rst30 := fun _ => rfl
theorem Selects.ldSpHl : Selects.Statement .ldSpHl := fun _ => rfl
theorem Selects.ei : Selects.Statement .ei := fun _ => rfl
theorem Selects.illegalFC : Selects.Statement .illegalFC := fun _ => rfl
theorem Selects.illegalFD : Selects.Statement .illegalFD := fun _ => rfl
theorem Selects.rst38 : Selects.Statement .rst38 := fun _ => rfl
theorem Selects.rlcB : Selects.Statement .rlcB := fun _ => rfl
theorem Selects.rlcC : Selects.Statement .rlcC := fun _ => rfl
theorem Selects.rlcD : Selects.Statement .rlcD := fun _ => rfl
theorem Selects.rlcE : Selects.Statement .rlcE := fun _ => rfl
theorem Selects.rlcH : Selects.Statement .rlcH := fun _ => rfl
theorem Selects.rlcL : Selects.Statement .rlcL := fun _ => rfl
theorem Selects.rlcAtHl : Selects.Statement .rlcAtHl := fun _ => rfl
theorem Selects.rlcA : Selects.Statement .rlcA := fun _ => rfl
theorem Selects.rrcB : Selects.Statement .rrcB := fun _ => rfl
theorem Selects.rrcC : Selects.Statement .rrcC := fun _ => rfl
theorem Selects.rrcD : Selects.Statement .rrcD := fun _ => rfl
theorem Selects.rrcE : Selects.Statement .rrcE := fun _ => rfl
theorem Selects.rrcH : Selects.Statement .rrcH := fun _ => rfl
theorem Selects.rrcL : Selects.Statement .rrcL := fun _ => rfl
theorem Selects.rrcAtHl : Selects.Statement .rrcAtHl := fun _ => rfl
theorem Selects.rrcA : Selects.Statement .rrcA := fun _ => rfl
theorem Selects.rlB : Selects.Statement .rlB := fun _ => rfl
theorem Selects.rlC : Selects.Statement .rlC := fun _ => rfl
theorem Selects.rlD : Selects.Statement .rlD := fun _ => rfl
theorem Selects.rlE : Selects.Statement .rlE := fun _ => rfl
theorem Selects.rlH : Selects.Statement .rlH := fun _ => rfl
theorem Selects.rlL : Selects.Statement .rlL := fun _ => rfl
theorem Selects.rlAtHl : Selects.Statement .rlAtHl := fun _ => rfl
theorem Selects.rlA : Selects.Statement .rlA := fun _ => rfl
theorem Selects.rrB : Selects.Statement .rrB := fun _ => rfl
theorem Selects.rrC : Selects.Statement .rrC := fun _ => rfl
theorem Selects.rrD : Selects.Statement .rrD := fun _ => rfl
theorem Selects.rrE : Selects.Statement .rrE := fun _ => rfl
theorem Selects.rrH : Selects.Statement .rrH := fun _ => rfl
theorem Selects.rrL : Selects.Statement .rrL := fun _ => rfl
theorem Selects.rrAtHl : Selects.Statement .rrAtHl := fun _ => rfl
theorem Selects.rrA : Selects.Statement .rrA := fun _ => rfl
theorem Selects.slaB : Selects.Statement .slaB := fun _ => rfl
theorem Selects.slaC : Selects.Statement .slaC := fun _ => rfl
theorem Selects.slaD : Selects.Statement .slaD := fun _ => rfl
theorem Selects.slaE : Selects.Statement .slaE := fun _ => rfl
theorem Selects.slaH : Selects.Statement .slaH := fun _ => rfl
theorem Selects.slaL : Selects.Statement .slaL := fun _ => rfl
theorem Selects.slaAtHl : Selects.Statement .slaAtHl := fun _ => rfl
theorem Selects.slaA : Selects.Statement .slaA := fun _ => rfl
theorem Selects.sraB : Selects.Statement .sraB := fun _ => rfl
theorem Selects.sraC : Selects.Statement .sraC := fun _ => rfl
theorem Selects.sraD : Selects.Statement .sraD := fun _ => rfl
theorem Selects.sraE : Selects.Statement .sraE := fun _ => rfl
theorem Selects.sraH : Selects.Statement .sraH := fun _ => rfl
theorem Selects.sraL : Selects.Statement .sraL := fun _ => rfl
theorem Selects.sraAtHl : Selects.Statement .sraAtHl := fun _ => rfl
theorem Selects.sraA : Selects.Statement .sraA := fun _ => rfl
theorem Selects.swapB : Selects.Statement .swapB := fun _ => rfl
theorem Selects.swapC : Selects.Statement .swapC := fun _ => rfl
theorem Selects.swapD : Selects.Statement .swapD := fun _ => rfl
theorem Selects.swapE : Selects.Statement .swapE := fun _ => rfl
theorem Selects.swapH : Selects.Statement .swapH := fun _ => rfl
theorem Selects.swapL : Selects.Statement .swapL := fun _ => rfl
theorem Selects.swapAtHl : Selects.Statement .swapAtHl := fun _ => rfl
theorem Selects.swapA : Selects.Statement .swapA := fun _ => rfl
theorem Selects.srlB : Selects.Statement .srlB := fun _ => rfl
theorem Selects.srlC : Selects.Statement .srlC := fun _ => rfl
theorem Selects.srlD : Selects.Statement .srlD := fun _ => rfl
theorem Selects.srlE : Selects.Statement .srlE := fun _ => rfl
theorem Selects.srlH : Selects.Statement .srlH := fun _ => rfl
theorem Selects.srlL : Selects.Statement .srlL := fun _ => rfl
theorem Selects.srlAtHl : Selects.Statement .srlAtHl := fun _ => rfl
theorem Selects.srlA : Selects.Statement .srlA := fun _ => rfl
theorem Selects.bit0B : Selects.Statement .bit0B := fun _ => rfl
theorem Selects.bit0C : Selects.Statement .bit0C := fun _ => rfl
theorem Selects.bit0D : Selects.Statement .bit0D := fun _ => rfl
theorem Selects.bit0E : Selects.Statement .bit0E := fun _ => rfl
theorem Selects.bit0H : Selects.Statement .bit0H := fun _ => rfl
theorem Selects.bit0L : Selects.Statement .bit0L := fun _ => rfl
theorem Selects.bit0AtHl : Selects.Statement .bit0AtHl := fun _ => rfl
theorem Selects.bit0A : Selects.Statement .bit0A := fun _ => rfl
theorem Selects.bit1B : Selects.Statement .bit1B := fun _ => rfl
theorem Selects.bit1C : Selects.Statement .bit1C := fun _ => rfl
theorem Selects.bit1D : Selects.Statement .bit1D := fun _ => rfl
theorem Selects.bit1E : Selects.Statement .bit1E := fun _ => rfl
theorem Selects.bit1H : Selects.Statement .bit1H := fun _ => rfl
theorem Selects.bit1L : Selects.Statement .bit1L := fun _ => rfl
theorem Selects.bit1AtHl : Selects.Statement .bit1AtHl := fun _ => rfl
theorem Selects.bit1A : Selects.Statement .bit1A := fun _ => rfl
theorem Selects.bit2B : Selects.Statement .bit2B := fun _ => rfl
theorem Selects.bit2C : Selects.Statement .bit2C := fun _ => rfl
theorem Selects.bit2D : Selects.Statement .bit2D := fun _ => rfl
theorem Selects.bit2E : Selects.Statement .bit2E := fun _ => rfl
theorem Selects.bit2H : Selects.Statement .bit2H := fun _ => rfl
theorem Selects.bit2L : Selects.Statement .bit2L := fun _ => rfl
theorem Selects.bit2AtHl : Selects.Statement .bit2AtHl := fun _ => rfl
theorem Selects.bit2A : Selects.Statement .bit2A := fun _ => rfl
theorem Selects.bit3B : Selects.Statement .bit3B := fun _ => rfl
theorem Selects.bit3C : Selects.Statement .bit3C := fun _ => rfl
theorem Selects.bit3D : Selects.Statement .bit3D := fun _ => rfl
theorem Selects.bit3E : Selects.Statement .bit3E := fun _ => rfl
theorem Selects.bit3H : Selects.Statement .bit3H := fun _ => rfl
theorem Selects.bit3L : Selects.Statement .bit3L := fun _ => rfl
theorem Selects.bit3AtHl : Selects.Statement .bit3AtHl := fun _ => rfl
theorem Selects.bit3A : Selects.Statement .bit3A := fun _ => rfl
theorem Selects.bit4B : Selects.Statement .bit4B := fun _ => rfl
theorem Selects.bit4C : Selects.Statement .bit4C := fun _ => rfl
theorem Selects.bit4D : Selects.Statement .bit4D := fun _ => rfl
theorem Selects.bit4E : Selects.Statement .bit4E := fun _ => rfl
theorem Selects.bit4H : Selects.Statement .bit4H := fun _ => rfl
theorem Selects.bit4L : Selects.Statement .bit4L := fun _ => rfl
theorem Selects.bit4AtHl : Selects.Statement .bit4AtHl := fun _ => rfl
theorem Selects.bit4A : Selects.Statement .bit4A := fun _ => rfl
theorem Selects.bit5B : Selects.Statement .bit5B := fun _ => rfl
theorem Selects.bit5C : Selects.Statement .bit5C := fun _ => rfl
theorem Selects.bit5D : Selects.Statement .bit5D := fun _ => rfl
theorem Selects.bit5E : Selects.Statement .bit5E := fun _ => rfl
theorem Selects.bit5H : Selects.Statement .bit5H := fun _ => rfl
theorem Selects.bit5L : Selects.Statement .bit5L := fun _ => rfl
theorem Selects.bit5AtHl : Selects.Statement .bit5AtHl := fun _ => rfl
theorem Selects.bit5A : Selects.Statement .bit5A := fun _ => rfl
theorem Selects.bit6B : Selects.Statement .bit6B := fun _ => rfl
theorem Selects.bit6C : Selects.Statement .bit6C := fun _ => rfl
theorem Selects.bit6D : Selects.Statement .bit6D := fun _ => rfl
theorem Selects.bit6E : Selects.Statement .bit6E := fun _ => rfl
theorem Selects.bit6H : Selects.Statement .bit6H := fun _ => rfl
theorem Selects.bit6L : Selects.Statement .bit6L := fun _ => rfl
theorem Selects.bit6AtHl : Selects.Statement .bit6AtHl := fun _ => rfl
theorem Selects.bit6A : Selects.Statement .bit6A := fun _ => rfl
theorem Selects.bit7B : Selects.Statement .bit7B := fun _ => rfl
theorem Selects.bit7C : Selects.Statement .bit7C := fun _ => rfl
theorem Selects.bit7D : Selects.Statement .bit7D := fun _ => rfl
theorem Selects.bit7E : Selects.Statement .bit7E := fun _ => rfl
theorem Selects.bit7H : Selects.Statement .bit7H := fun _ => rfl
theorem Selects.bit7L : Selects.Statement .bit7L := fun _ => rfl
theorem Selects.bit7AtHl : Selects.Statement .bit7AtHl := fun _ => rfl
theorem Selects.bit7A : Selects.Statement .bit7A := fun _ => rfl
theorem Selects.res0B : Selects.Statement .res0B := fun _ => rfl
theorem Selects.res0C : Selects.Statement .res0C := fun _ => rfl
theorem Selects.res0D : Selects.Statement .res0D := fun _ => rfl
theorem Selects.res0E : Selects.Statement .res0E := fun _ => rfl
theorem Selects.res0H : Selects.Statement .res0H := fun _ => rfl
theorem Selects.res0L : Selects.Statement .res0L := fun _ => rfl
theorem Selects.res0AtHl : Selects.Statement .res0AtHl := fun _ => rfl
theorem Selects.res0A : Selects.Statement .res0A := fun _ => rfl
theorem Selects.res1B : Selects.Statement .res1B := fun _ => rfl
theorem Selects.res1C : Selects.Statement .res1C := fun _ => rfl
theorem Selects.res1D : Selects.Statement .res1D := fun _ => rfl
theorem Selects.res1E : Selects.Statement .res1E := fun _ => rfl
theorem Selects.res1H : Selects.Statement .res1H := fun _ => rfl
theorem Selects.res1L : Selects.Statement .res1L := fun _ => rfl
theorem Selects.res1AtHl : Selects.Statement .res1AtHl := fun _ => rfl
theorem Selects.res1A : Selects.Statement .res1A := fun _ => rfl
theorem Selects.res2B : Selects.Statement .res2B := fun _ => rfl
theorem Selects.res2C : Selects.Statement .res2C := fun _ => rfl
theorem Selects.res2D : Selects.Statement .res2D := fun _ => rfl
theorem Selects.res2E : Selects.Statement .res2E := fun _ => rfl
theorem Selects.res2H : Selects.Statement .res2H := fun _ => rfl
theorem Selects.res2L : Selects.Statement .res2L := fun _ => rfl
theorem Selects.res2AtHl : Selects.Statement .res2AtHl := fun _ => rfl
theorem Selects.res2A : Selects.Statement .res2A := fun _ => rfl
theorem Selects.res3B : Selects.Statement .res3B := fun _ => rfl
theorem Selects.res3C : Selects.Statement .res3C := fun _ => rfl
theorem Selects.res3D : Selects.Statement .res3D := fun _ => rfl
theorem Selects.res3E : Selects.Statement .res3E := fun _ => rfl
theorem Selects.res3H : Selects.Statement .res3H := fun _ => rfl
theorem Selects.res3L : Selects.Statement .res3L := fun _ => rfl
theorem Selects.res3AtHl : Selects.Statement .res3AtHl := fun _ => rfl
theorem Selects.res3A : Selects.Statement .res3A := fun _ => rfl
theorem Selects.res4B : Selects.Statement .res4B := fun _ => rfl
theorem Selects.res4C : Selects.Statement .res4C := fun _ => rfl
theorem Selects.res4D : Selects.Statement .res4D := fun _ => rfl
theorem Selects.res4E : Selects.Statement .res4E := fun _ => rfl
theorem Selects.res4H : Selects.Statement .res4H := fun _ => rfl
theorem Selects.res4L : Selects.Statement .res4L := fun _ => rfl
theorem Selects.res4AtHl : Selects.Statement .res4AtHl := fun _ => rfl
theorem Selects.res4A : Selects.Statement .res4A := fun _ => rfl
theorem Selects.res5B : Selects.Statement .res5B := fun _ => rfl
theorem Selects.res5C : Selects.Statement .res5C := fun _ => rfl
theorem Selects.res5D : Selects.Statement .res5D := fun _ => rfl
theorem Selects.res5E : Selects.Statement .res5E := fun _ => rfl
theorem Selects.res5H : Selects.Statement .res5H := fun _ => rfl
theorem Selects.res5L : Selects.Statement .res5L := fun _ => rfl
theorem Selects.res5AtHl : Selects.Statement .res5AtHl := fun _ => rfl
theorem Selects.res5A : Selects.Statement .res5A := fun _ => rfl
theorem Selects.res6B : Selects.Statement .res6B := fun _ => rfl
theorem Selects.res6C : Selects.Statement .res6C := fun _ => rfl
theorem Selects.res6D : Selects.Statement .res6D := fun _ => rfl
theorem Selects.res6E : Selects.Statement .res6E := fun _ => rfl
theorem Selects.res6H : Selects.Statement .res6H := fun _ => rfl
theorem Selects.res6L : Selects.Statement .res6L := fun _ => rfl
theorem Selects.res6AtHl : Selects.Statement .res6AtHl := fun _ => rfl
theorem Selects.res6A : Selects.Statement .res6A := fun _ => rfl
theorem Selects.res7B : Selects.Statement .res7B := fun _ => rfl
theorem Selects.res7C : Selects.Statement .res7C := fun _ => rfl
theorem Selects.res7D : Selects.Statement .res7D := fun _ => rfl
theorem Selects.res7E : Selects.Statement .res7E := fun _ => rfl
theorem Selects.res7H : Selects.Statement .res7H := fun _ => rfl
theorem Selects.res7L : Selects.Statement .res7L := fun _ => rfl
theorem Selects.res7AtHl : Selects.Statement .res7AtHl := fun _ => rfl
theorem Selects.res7A : Selects.Statement .res7A := fun _ => rfl
theorem Selects.set0B : Selects.Statement .set0B := fun _ => rfl
theorem Selects.set0C : Selects.Statement .set0C := fun _ => rfl
theorem Selects.set0D : Selects.Statement .set0D := fun _ => rfl
theorem Selects.set0E : Selects.Statement .set0E := fun _ => rfl
theorem Selects.set0H : Selects.Statement .set0H := fun _ => rfl
theorem Selects.set0L : Selects.Statement .set0L := fun _ => rfl
theorem Selects.set0AtHl : Selects.Statement .set0AtHl := fun _ => rfl
theorem Selects.set0A : Selects.Statement .set0A := fun _ => rfl
theorem Selects.set1B : Selects.Statement .set1B := fun _ => rfl
theorem Selects.set1C : Selects.Statement .set1C := fun _ => rfl
theorem Selects.set1D : Selects.Statement .set1D := fun _ => rfl
theorem Selects.set1E : Selects.Statement .set1E := fun _ => rfl
theorem Selects.set1H : Selects.Statement .set1H := fun _ => rfl
theorem Selects.set1L : Selects.Statement .set1L := fun _ => rfl
theorem Selects.set1AtHl : Selects.Statement .set1AtHl := fun _ => rfl
theorem Selects.set1A : Selects.Statement .set1A := fun _ => rfl
theorem Selects.set2B : Selects.Statement .set2B := fun _ => rfl
theorem Selects.set2C : Selects.Statement .set2C := fun _ => rfl
theorem Selects.set2D : Selects.Statement .set2D := fun _ => rfl
theorem Selects.set2E : Selects.Statement .set2E := fun _ => rfl
theorem Selects.set2H : Selects.Statement .set2H := fun _ => rfl
theorem Selects.set2L : Selects.Statement .set2L := fun _ => rfl
theorem Selects.set2AtHl : Selects.Statement .set2AtHl := fun _ => rfl
theorem Selects.set2A : Selects.Statement .set2A := fun _ => rfl
theorem Selects.set3B : Selects.Statement .set3B := fun _ => rfl
theorem Selects.set3C : Selects.Statement .set3C := fun _ => rfl
theorem Selects.set3D : Selects.Statement .set3D := fun _ => rfl
theorem Selects.set3E : Selects.Statement .set3E := fun _ => rfl
theorem Selects.set3H : Selects.Statement .set3H := fun _ => rfl
theorem Selects.set3L : Selects.Statement .set3L := fun _ => rfl
theorem Selects.set3AtHl : Selects.Statement .set3AtHl := fun _ => rfl
theorem Selects.set3A : Selects.Statement .set3A := fun _ => rfl
theorem Selects.set4B : Selects.Statement .set4B := fun _ => rfl
theorem Selects.set4C : Selects.Statement .set4C := fun _ => rfl
theorem Selects.set4D : Selects.Statement .set4D := fun _ => rfl
theorem Selects.set4E : Selects.Statement .set4E := fun _ => rfl
theorem Selects.set4H : Selects.Statement .set4H := fun _ => rfl
theorem Selects.set4L : Selects.Statement .set4L := fun _ => rfl
theorem Selects.set4AtHl : Selects.Statement .set4AtHl := fun _ => rfl
theorem Selects.set4A : Selects.Statement .set4A := fun _ => rfl
theorem Selects.set5B : Selects.Statement .set5B := fun _ => rfl
theorem Selects.set5C : Selects.Statement .set5C := fun _ => rfl
theorem Selects.set5D : Selects.Statement .set5D := fun _ => rfl
theorem Selects.set5E : Selects.Statement .set5E := fun _ => rfl
theorem Selects.set5H : Selects.Statement .set5H := fun _ => rfl
theorem Selects.set5L : Selects.Statement .set5L := fun _ => rfl
theorem Selects.set5AtHl : Selects.Statement .set5AtHl := fun _ => rfl
theorem Selects.set5A : Selects.Statement .set5A := fun _ => rfl
theorem Selects.set6B : Selects.Statement .set6B := fun _ => rfl
theorem Selects.set6C : Selects.Statement .set6C := fun _ => rfl
theorem Selects.set6D : Selects.Statement .set6D := fun _ => rfl
theorem Selects.set6E : Selects.Statement .set6E := fun _ => rfl
theorem Selects.set6H : Selects.Statement .set6H := fun _ => rfl
theorem Selects.set6L : Selects.Statement .set6L := fun _ => rfl
theorem Selects.set6AtHl : Selects.Statement .set6AtHl := fun _ => rfl
theorem Selects.set6A : Selects.Statement .set6A := fun _ => rfl
theorem Selects.set7B : Selects.Statement .set7B := fun _ => rfl
theorem Selects.set7C : Selects.Statement .set7C := fun _ => rfl
theorem Selects.set7D : Selects.Statement .set7D := fun _ => rfl
theorem Selects.set7E : Selects.Statement .set7E := fun _ => rfl
theorem Selects.set7H : Selects.Statement .set7H := fun _ => rfl
theorem Selects.set7L : Selects.Statement .set7L := fun _ => rfl
theorem Selects.set7AtHl : Selects.Statement .set7AtHl := fun _ => rfl
theorem Selects.set7A : Selects.Statement .set7A := fun _ => rfl

end Sys2Proof.Laws
end

