-- ==== Sys2Proof/Laws/Shapes.lean ====
section
/-! SUPPORT. The inversion of `exec`: whatever the instruction, its meaning is one of the shared meanings, and beside it stand the addresses it stores to, the pc its rule writes,
its length and the flags of its class. A statement over all instructions is proved by cases over `RunsAs`, 39 of them in place of 511. -/

namespace Sys2Proof.Machine

/-- What the classes of Safety.lean and Accesses.lean say of an instruction in a state. -/
structure Class (i : Instr) (s : State) (stores : List Word) (target : Option Word) (length : Nat) (flags : List Flag) : Prop where
  stores : storedAddresses i s = stores
  target : pcWritten i s = target
  length : opcodeLength ((encode i).headD 0) = length
  flags : flagWrites i = flags

/-- The addresses a written 8-bit operand takes in memory. -/
def operandStores (o : Operand8) (s : State) : List Word :=
  match o with
  | .reg _ => []
  | .atHl => [s.hl]

/-- The result is a shared meaning's, and the instruction is of that meaning's class. -/
inductive RunsAs (i : Instr) (s : State) : Result → Prop where
  | nop (h : Class i s [] none 1 []) : RunsAs i s (Machine.nop s)
  | schedule (edge : Pending) (he : i = .ei ∧ edge = .pendingEnable ∨ i = .di ∧ edge = .pendingDisable) (h : Class i s [] none 1 []) : RunsAs i s (Machine.schedule edge s)
  | raiseUnimplemented (op : Byte) (hm : (i, op) ∈ unimplementedRows) (h : Class i s [] none 1 []) : RunsAs i s (Machine.raiseUnimplemented op s)
  | ldRegReg (r r' : Reg8) (h : Class i s [] none 1 []) : RunsAs i s (Machine.ldRegReg r r' s)
  | ldRegImm (r : Reg8) (n : Byte) (h : Class i s [] none 2 []) : RunsAs i s (Machine.ldRegImm r n s)
  | ldRegMem (r : Reg8) (x : Word) (k : Nat) (h : Class i s [] none k []) : RunsAs i s (Machine.ldRegMem r x k s)
  | ldMem (x : Word) (v : Byte) (k : Nat) (h : Class i s [x] none k []) : RunsAs i s (Machine.ldMem x v k s)
  | ldAHlMove (delta : Word) (h : Class i s [] none 1 []) : RunsAs i s (Machine.ldAHlMove delta s)
  | ldHlMoveA (delta : Word) (h : Class i s [s.hl] none 1 []) : RunsAs i s (Machine.ldHlMoveA delta s)
  | ldPairImm (rr : Reg16) (nn : Word) (h : Class i s [] none 3 []) : RunsAs i s (Machine.ldPairImm rr nn s)
  | ldMemSp (nn : Word) (h : Class i s [nn, nn + 1] none 3 []) : RunsAs i s (Machine.ldMemSp nn s)
  | ldSpFromHl (h : Class i s [] none 1 []) : RunsAs i s (Machine.ldSpFromHl s)
  | ldHlFromSp (n : Byte) (h : Class i s [] none 2 [.z, .n, .h, .c]) : RunsAs i s (Machine.ldHlFromSp n s)
  | jumpTo (x : Word) (k : Nat) (h : Class i s [] (some x) k []) : RunsAs i s (Machine.jumpTo x s)
  | jumpIf (cc : Cond) (nn : Word) (h : Class i s [] (whenTaken cc s nn) 3 []) : RunsAs i s (Machine.jumpIf cc nn s)
  | jumpRelative (e : Int) (h : Class i s [] (some (relativeJump e s)) 2 []) : RunsAs i s (Machine.jumpRelative e s)
  | jumpRelativeIf (cc : Cond) (e : Int) (h : Class i s [] (whenTaken cc s (relativeJump e s)) 2 []) : RunsAs i s (Machine.jumpRelativeIf cc e s)
  | callTo (x : Word) (k : Nat) (h : Class i s [s.sp - 1, s.sp - 2] (some x) k []) : RunsAs i s (Machine.callTo x k s)
  | callIf (cc : Cond) (nn : Word) (h : Class i s (if condition cc s then [s.sp - 1, s.sp - 2] else []) (whenTaken cc s nn) 3 []) : RunsAs i s (Machine.callIf cc nn s)
  | returnTo (h : Class i s [] (some (stackTop s)) 1 []) : RunsAs i s (Machine.returnTo s)
  | returnIf (cc : Cond) (h : Class i s [] (whenTaken cc s (stackTop s)) 1 []) : RunsAs i s (Machine.returnIf cc s)
  | returnFromInterrupt (hi : i = .reti) (h : Class i s [] (some (stackTop s)) 1 []) : RunsAs i s (Machine.returnFromInterrupt s)
  | aluA (op : AluOp) (v : Byte) (k : Nat) (h : Class i s [] none k [.z, .n, .h, .c]) : RunsAs i s (Machine.aluA op v k s)
  | incOperand (o : Operand8) (h : Class i s (operandStores o s) none 1 [.z, .n, .h]) : RunsAs i s (Machine.incOperand o s)
  | decOperand (o : Operand8) (h : Class i s (operandStores o s) none 1 [.z, .n, .h]) : RunsAs i s (Machine.decOperand o s)
  | decimalAdjust (h : Class i s [] none 1 [.z, .h, .c]) : RunsAs i s (Machine.decimalAdjust s)
  | complementA (h : Class i s [] none 1 [.n, .h]) : RunsAs i s (Machine.complementA s)
  | writeCarry (c : Bool) (h : Class i s [] none 1 [.n, .h, .c]) : RunsAs i s (Machine.writeCarry c s)
  | movePair (rr : Reg16) (delta : Word) (h : Class i s [] none 1 []) : RunsAs i s (Machine.movePair rr delta s)
  | addToHl (rr : Reg16) (h : Class i s [] none 1 [.n, .h, .c]) : RunsAs i s (Machine.addToHl rr s)
  | addToSp (n : Byte) (h : Class i s [] none 2 [.z, .n, .h, .c]) : RunsAs i s (Machine.addToSp n s)
  | rotateA (op : RotOp) (h : Class i s [] none 1 [.z, .n, .h, .c]) : RunsAs i s (Machine.rotateA op s)
  | rotateOperand (op : RotOp) (o : Operand8) (h : Class i s (operandStores o s) none 2 [.z, .n, .h, .c]) : RunsAs i s (Machine.rotateOperand op o s)
  | testBit (b : Fin 8) (o : Operand8) (h : Class i s [] none 2 [.z, .n, .h]) : RunsAs i s (Machine.testBit b o s)
  | resetBit (b : Fin 8) (o : Operand8) (h : Class i s (operandStores o s) none 2 []) : RunsAs i s (Machine.resetBit b o s)
  | setBit (b : Fin 8) (o : Operand8) (h : Class i s (operandStores o s) none 2 []) : RunsAs i s (Machine.setBit b o s)
  | pushPair (rr : StackPair) (h : Class i s [s.sp - 1, s.sp - 2] none 1 []) : RunsAs i s (Machine.pushPair rr s)
  | popPair (rr : StackPair) (af : rr ≠ .af) (h : Class i s [] none 1 []) : RunsAs i s (Machine.popPair rr s)
  | popAccumulatorFlags (af : i = .popAf) (h : Class i s [] none 1 [.z, .n, .h, .c]) : RunsAs i s (Machine.popAccumulatorFlags s)

/-- The stores of a conditional call (R226). -/
theorem stores_callIf (cc : Cond) (s : State) :
    ((if condHolds cc s.f then pushAccesses s else []).filterMap fun
      | Access.write a => some a
      | _ => none) = if condition cc s then [s.sp - 1, s.sp - 2] else [] := by
  rw [condHolds_eq]
  split <;> rfl

/-- A conditional return stores nothing (R228). -/
theorem stores_returnIf (cc : Cond) (s : State) :
    ((if condHolds cc s.f then popAccesses s else []).filterMap fun
      | Access.write a => some a
      | _ => none) = [] := by
  split <;> rfl

/-- The inversion of `exec`. -/
theorem exec_runsAs (i : Instr) (s : State) : RunsAs i s (exec i s) :=
  match i with
  | .nop => .nop ⟨rfl, rfl, rfl, rfl⟩
  | .ldBcNn _ => .ldPairImm _ _ ⟨rfl, rfl, rfl, rfl⟩
  | .ldAtBcA => .ldMem _ _ _ ⟨rfl, rfl, rfl, rfl⟩
  | .incBc => .movePair _ _ ⟨rfl, rfl, rfl, rfl⟩
  | .incB => .incOperand _ ⟨rfl, rfl, rfl, rfl⟩
  | .decB => .decOperand _ ⟨rfl, rfl, rfl, rfl⟩
  | .ldBN _ => .ldRegImm _ _ ⟨rfl, rfl, rfl, rfl⟩
  | .rlca => .rotateA _ ⟨rfl, rfl, rfl, rfl⟩
  | .ldAtNnSp _ => .ldMemSp _ ⟨rfl, rfl, rfl, rfl⟩
  | .addHlBc => .addToHl _ ⟨rfl, rfl, rfl, rfl⟩
  | .ldAAtBc => .ldRegMem _ _ _ ⟨rfl, rfl, rfl, rfl⟩
  | .decBc => .movePair _ _ ⟨rfl, rfl, rfl, rfl⟩
  | .incC => .incOperand _ ⟨rfl, rfl, rfl, rfl⟩
  | .decC => .decOperand _ ⟨rfl, rfl, rfl, rfl⟩
  | .ldCN _ => .ldRegImm _ _ ⟨rfl, rfl, rfl, rfl⟩
  | .rrca => .rotateA _ ⟨rfl, rfl, rfl, rfl⟩
  | .stop => .raiseUnimplemented _ (by simp [unimplementedRows]) ⟨rfl, rfl, rfl, rfl⟩
  | .ldDeNn _ => .ldPairImm _ _ ⟨rfl, rfl, rfl, rfl⟩
  | .ldAtDeA => .ldMem _ _ _ ⟨rfl, rfl, rfl, rfl⟩
  | .incDe => .movePair _ _ ⟨rfl, rfl, rfl, rfl⟩
  | .incD => .incOperand _ ⟨rfl, rfl, rfl, rfl⟩
  | .decD => .decOperand _ ⟨rfl, rfl, rfl, rfl⟩
  | .ldDN _ => .ldRegImm _ _ ⟨rfl, rfl, rfl, rfl⟩
  | .rla => .rotateA _ ⟨rfl, rfl, rfl, rfl⟩
  | .jrE _ => .jumpRelative _ ⟨rfl, rfl, rfl, rfl⟩
  | .addHlDe => .addToHl _ ⟨rfl, rfl, rfl, rfl⟩
  | .ldAAtDe => .ldRegMem _ _ _ ⟨rfl, rfl, rfl, rfl⟩
  | .decDe => .movePair _ _ ⟨rfl, rfl, rfl, rfl⟩
  | .incE => .incOperand _ ⟨rfl, rfl, rfl, rfl⟩
  | .decE => .decOperand _ ⟨rfl, rfl, rfl, rfl⟩
  | .ldEN _ => .ldRegImm _ _ ⟨rfl, rfl, rfl, rfl⟩
  | .rra => .rotateA _ ⟨rfl, rfl, rfl, rfl⟩
  | .jrNzE _ => .jumpRelativeIf _ _ ⟨rfl, rfl, rfl, rfl⟩
  | .ldHlNn _ => .ldPairImm _ _ ⟨rfl, rfl, rfl, rfl⟩
  | .ldAtHlIncA => .ldHlMoveA _ ⟨rfl, rfl, rfl, rfl⟩
  | .incHl => .movePair _ _ ⟨rfl, rfl, rfl, rfl⟩
  | .incH => .incOperand _ ⟨rfl, rfl, rfl, rfl⟩
  | .decH => .decOperand _ ⟨rfl, rfl, rfl, rfl⟩
  | .ldHN _ => .ldRegImm _ _ ⟨rfl, rfl, rfl, rfl⟩
  | .daa => .decimalAdjust ⟨rfl, rfl, rfl, rfl⟩
  | .jrZE _ => .jumpRelativeIf _ _ ⟨rfl, rfl, rfl, rfl⟩
  | .addHlHl => .addToHl _ ⟨rfl, rfl, rfl, rfl⟩
  | .ldAAtHlInc => .ldAHlMove _ ⟨rfl, rfl, rfl, rfl⟩
  | .decHl => .movePair _ _ ⟨rfl, rfl, rfl, rfl⟩
  | .incL => .incOperand _ ⟨rfl, rfl, rfl, rfl⟩
  | .decL => .decOperand _ ⟨rfl, rfl, rfl, rfl⟩
  | .ldLN _ => .ldRegImm _ _ ⟨rfl, rfl, rfl, rfl⟩
  | .cpl => .complementA ⟨rfl, rfl, rfl, rfl⟩
  | .jrNcE _ => .jumpRelativeIf _ _ ⟨rfl, rfl, rfl, rfl⟩
  | .ldSpNn _ => .ldPairImm _ _ ⟨rfl, rfl, rfl, rfl⟩
  | .ldAtHlDecA => .ldHlMoveA _ ⟨rfl, rfl, rfl, rfl⟩
  | .incSp => .movePair _ _ ⟨rfl, rfl, rfl, rfl⟩
  | .incAtHl => .incOperand _ ⟨rfl, rfl, rfl, rfl⟩
  | .decAtHl => .decOperand _ ⟨rfl, rfl, rfl, rfl⟩
  | .ldAtHlN _ => .ldMem _ _ _ ⟨rfl, rfl, rfl, rfl⟩
  | .scf => .writeCarry _ ⟨rfl, rfl, rfl, rfl⟩
  | .jrCE _ => .jumpRelativeIf _ _ ⟨rfl, rfl, rfl, rfl⟩
  | .addHlSp => .addToHl _ ⟨rfl, rfl, rfl, rfl⟩
  | .ldAAtHlDec => .ldAHlMove _ ⟨rfl, rfl, rfl, rfl⟩
  | .decSp => .movePair _ _ ⟨rfl, rfl, rfl, rfl⟩
  | .incA => .incOperand _ ⟨rfl, rfl, rfl, rfl⟩
  | .decA => .decOperand _ ⟨rfl, rfl, rfl, rfl⟩
  | .ldAN _ => .ldRegImm _ _ ⟨rfl, rfl, rfl, rfl⟩
  | .ccf => .writeCarry _ ⟨rfl, rfl, rfl, rfl⟩
  | .ldBB => .ldRegReg _ _ ⟨rfl, rfl, rfl, rfl⟩
  | .ldBC => .ldRegReg _ _ ⟨rfl, rfl, rfl, rfl⟩
  | .ldBD => .ldRegReg _ _ ⟨rfl, rfl, rfl, rfl⟩
  | .ldBE => .ldRegReg _ _ ⟨rfl, rfl, rfl, rfl⟩
  | .ldBH => .ldRegReg _ _ ⟨rfl, rfl, rfl, rfl⟩
  | .ldBL => .ldRegReg _ _ ⟨rfl, rfl, rfl, rfl⟩
  | .ldBAtHl => .ldRegMem _ _ _ ⟨rfl, rfl, rfl, rfl⟩
  | .ldBA => .ldRegReg _ _ ⟨rfl, rfl, rfl, rfl⟩
  | .ldCB => .ldRegReg _ _ ⟨rfl, rfl, rfl, rfl⟩
  | .ldCC => .ldRegReg _ _ ⟨rfl, rfl, rfl, rfl⟩
  | .ldCD => .ldRegReg _ _ ⟨rfl, rfl, rfl, rfl⟩
  | .ldCE => .ldRegReg _ _ ⟨rfl, rfl, rfl, rfl⟩
  | .ldCH => .ldRegReg _ _ ⟨rfl, rfl, rfl, rfl⟩
  | .ldCL => .ldRegReg _ _ ⟨rfl, rfl, rfl, rfl⟩
  | .ldCAtHl => .ldRegMem _ _ _ ⟨rfl, rfl, rfl, rfl⟩
  | .ldCA => .ldRegReg _ _ ⟨rfl, rfl, rfl, rfl⟩
  | .ldDB => .ldRegReg _ _ ⟨rfl, rfl, rfl, rfl⟩
  | .ldDC => .ldRegReg _ _ ⟨rfl, rfl, rfl, rfl⟩
  | .ldDD => .ldRegReg _ _ ⟨rfl, rfl, rfl, rfl⟩
  | .ldDE => .ldRegReg _ _ ⟨rfl, rfl, rfl, rfl⟩
  | .ldDH => .ldRegReg _ _ ⟨rfl, rfl, rfl, rfl⟩
  | .ldDL => .ldRegReg _ _ ⟨rfl, rfl, rfl, rfl⟩
  | .ldDAtHl => .ldRegMem _ _ _ ⟨rfl, rfl, rfl, rfl⟩
  | .ldDA => .ldRegReg _ _ ⟨rfl, rfl, rfl, rfl⟩
  | .ldEB => .ldRegReg _ _ ⟨rfl, rfl, rfl, rfl⟩
  | .ldEC => .ldRegReg _ _ ⟨rfl, rfl, rfl, rfl⟩
  | .ldED => .ldRegReg _ _ ⟨rfl, rfl, rfl, rfl⟩
  | .ldEE => .ldRegReg _ _ ⟨rfl, rfl, rfl, rfl⟩
  | .ldEH => .ldRegReg _ _ ⟨rfl, rfl, rfl, rfl⟩
  | .ldEL => .ldRegReg _ _ ⟨rfl, rfl, rfl, rfl⟩
  | .ldEAtHl => .ldRegMem _ _ _ ⟨rfl, rfl, rfl, rfl⟩
  | .ldEA => .ldRegReg _ _ ⟨rfl, rfl, rfl, rfl⟩
  | .ldHB => .ldRegReg _ _ ⟨rfl, rfl, rfl, rfl⟩
  | .ldHC => .ldRegReg _ _ ⟨rfl, rfl, rfl, rfl⟩
  | .ldHD => .ldRegReg _ _ ⟨rfl, rfl, rfl, rfl⟩
  | .ldHE => .ldRegReg _ _ ⟨rfl, rfl, rfl, rfl⟩
  | .ldHH => .ldRegReg _ _ ⟨rfl, rfl, rfl, rfl⟩
  | .ldHL => .ldRegReg _ _ ⟨rfl, rfl, rfl, rfl⟩
  | .ldHAtHl => .ldRegMem _ _ _ ⟨rfl, rfl, rfl, rfl⟩
  | .ldHA => .ldRegReg _ _ ⟨rfl, rfl, rfl, rfl⟩
  | .ldLB => .ldRegReg _ _ ⟨rfl, rfl, rfl, rfl⟩
  | .ldLC => .ldRegReg _ _ ⟨rfl, rfl, rfl, rfl⟩
  | .ldLD => .ldRegReg _ _ ⟨rfl, rfl, rfl, rfl⟩
  | .ldLE => .ldRegReg _ _ ⟨rfl, rfl, rfl, rfl⟩
  | .ldLH => .ldRegReg _ _ ⟨rfl, rfl, rfl, rfl⟩
  | .ldLL => .ldRegReg _ _ ⟨rfl, rfl, rfl, rfl⟩
  | .ldLAtHl => .ldRegMem _ _ _ ⟨rfl, rfl, rfl, rfl⟩
  | .ldLA => .ldRegReg _ _ ⟨rfl, rfl, rfl, rfl⟩
  | .ldAtHlB => .ldMem _ _ _ ⟨rfl, rfl, rfl, rfl⟩
  | .ldAtHlC => .ldMem _ _ _ ⟨rfl, rfl, rfl, rfl⟩
  | .ldAtHlD => .ldMem _ _ _ ⟨rfl, rfl, rfl, rfl⟩
  | .ldAtHlE => .ldMem _ _ _ ⟨rfl, rfl, rfl, rfl⟩
  | .ldAtHlH => .ldMem _ _ _ ⟨rfl, rfl, rfl, rfl⟩
  | .ldAtHlL => .ldMem _ _ _ ⟨rfl, rfl, rfl, rfl⟩
  | .halt => .raiseUnimplemented _ (by simp [unimplementedRows]) ⟨rfl, rfl, rfl, rfl⟩
  | .ldAtHlA => .ldMem _ _ _ ⟨rfl, rfl, rfl, rfl⟩
  | .ldAB => .ldRegReg _ _ ⟨rfl, rfl, rfl, rfl⟩
  | .ldAC => .ldRegReg _ _ ⟨rfl, rfl, rfl, rfl⟩
  | .ldAD => .ldRegReg _ _ ⟨rfl, rfl, rfl, rfl⟩
  | .ldAE => .ldRegReg _ _ ⟨rfl, rfl, rfl, rfl⟩
  | .ldAH => .ldRegReg _ _ ⟨rfl, rfl, rfl, rfl⟩
  | .ldAL => .ldRegReg _ _ ⟨rfl, rfl, rfl, rfl⟩
  | .ldAAtHl => .ldRegMem _ _ _ ⟨rfl, rfl, rfl, rfl⟩
  | .ldAA => .ldRegReg _ _ ⟨rfl, rfl, rfl, rfl⟩
  | .addAB => .aluA _ _ _ ⟨rfl, rfl, rfl, rfl⟩
  | .addAC => .aluA _ _ _ ⟨rfl, rfl, rfl, rfl⟩
  | .addAD => .aluA _ _ _ ⟨rfl, rfl, rfl, rfl⟩
  | .addAE => .aluA _ _ _ ⟨rfl, rfl, rfl, rfl⟩
  | .addAH => .aluA _ _ _ ⟨rfl, rfl, rfl, rfl⟩
  | .addAL => .aluA _ _ _ ⟨rfl, rfl, rfl, rfl⟩
  | .addAAtHl => .aluA _ _ _ ⟨rfl, rfl, rfl, rfl⟩
  | .addAA => .aluA _ _ _ ⟨rfl, rfl, rfl, rfl⟩
  | .adcAB => .aluA _ _ _ ⟨rfl, rfl, rfl, rfl⟩
  | .adcAC => .aluA _ _ _ ⟨rfl, rfl, rfl, rfl⟩
  | .adcAD => .aluA _ _ _ ⟨rfl, rfl, rfl, rfl⟩
  | .adcAE => .aluA _ _ _ ⟨rfl, rfl, rfl, rfl⟩
  | .adcAH => .aluA _ _ _ ⟨rfl, rfl, rfl, rfl⟩
  | .adcAL => .aluA _ _ _ ⟨rfl, rfl, rfl, rfl⟩
  | .adcAAtHl => .aluA _ _ _ ⟨rfl, rfl, rfl, rfl⟩
  | .adcAA => .aluA _ _ _ ⟨rfl, rfl, rfl, rfl⟩
  | .subAB => .aluA _ _ _ ⟨rfl, rfl, rfl, rfl⟩
  | .subAC => .aluA _ _ _ ⟨rfl, rfl, rfl, rfl⟩
  | .subAD => .aluA _ _ _ ⟨rfl, rfl, rfl, rfl⟩
  | .subAE => .aluA _ _ _ ⟨rfl, rfl, rfl, rfl⟩
  | .subAH => .aluA _ _ _ ⟨rfl, rfl, rfl, rfl⟩
  | .subAL => .aluA _ _ _ ⟨rfl, rfl, rfl, rfl⟩
  | .subAAtHl => .aluA _ _ _ ⟨rfl, rfl, rfl, rfl⟩
  | .subAA => .aluA _ _ _ ⟨rfl, rfl, rfl, rfl⟩
  | .sbcAB => .aluA _ _ _ ⟨rfl, rfl, rfl, rfl⟩
  | .sbcAC => .aluA _ _ _ ⟨rfl, rfl, rfl, rfl⟩
  | .sbcAD => .aluA _ _ _ ⟨rfl, rfl, rfl, rfl⟩
  | .sbcAE => .aluA _ _ _ ⟨rfl, rfl, rfl, rfl⟩
  | .sbcAH => .aluA _ _ _ ⟨rfl, rfl, rfl, rfl⟩
  | .sbcAL => .aluA _ _ _ ⟨rfl, rfl, rfl, rfl⟩
  | .sbcAAtHl => .aluA _ _ _ ⟨rfl, rfl, rfl, rfl⟩
  | .sbcAA => .aluA _ _ _ ⟨rfl, rfl, rfl, rfl⟩
  | .andAB => .aluA _ _ _ ⟨rfl, rfl, rfl, rfl⟩
  | .andAC => .aluA _ _ _ ⟨rfl, rfl, rfl, rfl⟩
  | .andAD => .aluA _ _ _ ⟨rfl, rfl, rfl, rfl⟩
  | .andAE => .aluA _ _ _ ⟨rfl, rfl, rfl, rfl⟩
  | .andAH => .aluA _ _ _ ⟨rfl, rfl, rfl, rfl⟩
  | .andAL => .aluA _ _ _ ⟨rfl, rfl, rfl, rfl⟩
  | .andAAtHl => .aluA _ _ _ ⟨rfl, rfl, rfl, rfl⟩
  | .andAA => .aluA _ _ _ ⟨rfl, rfl, rfl, rfl⟩
  | .xorAB => .aluA _ _ _ ⟨rfl, rfl, rfl, rfl⟩
  | .xorAC => .aluA _ _ _ ⟨rfl, rfl, rfl, rfl⟩
  | .xorAD => .aluA _ _ _ ⟨rfl, rfl, rfl, rfl⟩
  | .xorAE => .aluA _ _ _ ⟨rfl, rfl, rfl, rfl⟩
  | .xorAH => .aluA _ _ _ ⟨rfl, rfl, rfl, rfl⟩
  | .xorAL => .aluA _ _ _ ⟨rfl, rfl, rfl, rfl⟩
  | .xorAAtHl => .aluA _ _ _ ⟨rfl, rfl, rfl, rfl⟩
  | .xorAA => .aluA _ _ _ ⟨rfl, rfl, rfl, rfl⟩
  | .orAB => .aluA _ _ _ ⟨rfl, rfl, rfl, rfl⟩
  | .orAC => .aluA _ _ _ ⟨rfl, rfl, rfl, rfl⟩
  | .orAD => .aluA _ _ _ ⟨rfl, rfl, rfl, rfl⟩
  | .orAE => .aluA _ _ _ ⟨rfl, rfl, rfl, rfl⟩
  | .orAH => .aluA _ _ _ ⟨rfl, rfl, rfl, rfl⟩
  | .orAL => .aluA _ _ _ ⟨rfl, rfl, rfl, rfl⟩
  | .orAAtHl => .aluA _ _ _ ⟨rfl, rfl, rfl, rfl⟩
  | .orAA => .aluA _ _ _ ⟨rfl, rfl, rfl, rfl⟩
  | .cpAB => .aluA _ _ _ ⟨rfl, rfl, rfl, rfl⟩
  | .cpAC => .aluA _ _ _ ⟨rfl, rfl, rfl, rfl⟩
  | .cpAD => .aluA _ _ _ ⟨rfl, rfl, rfl, rfl⟩
  | .cpAE => .aluA _ _ _ ⟨rfl, rfl, rfl, rfl⟩
  | .cpAH => .aluA _ _ _ ⟨rfl, rfl, rfl, rfl⟩
  | .cpAL => .aluA _ _ _ ⟨rfl, rfl, rfl, rfl⟩
  | .cpAAtHl => .aluA _ _ _ ⟨rfl, rfl, rfl, rfl⟩
  | .cpAA => .aluA _ _ _ ⟨rfl, rfl, rfl, rfl⟩
  | .retNz => .returnIf _ ⟨stores_returnIf _ s, rfl, rfl, rfl⟩
  | .popBc => .popPair _ (by decide) ⟨rfl, rfl, rfl, rfl⟩
  | .jpNzNn _ => .jumpIf _ _ ⟨rfl, rfl, rfl, rfl⟩
  | .jpNn _ => .jumpTo _ _ ⟨rfl, rfl, rfl, rfl⟩
  | .callNzNn _ => .callIf _ _ ⟨stores_callIf _ s, rfl, rfl, rfl⟩
  | .pushBc => .pushPair _ ⟨rfl, rfl, rfl, rfl⟩
  | .addAN _ => .aluA _ _ _ ⟨rfl, rfl, rfl, rfl⟩
  | .rst00 => .callTo _ _ ⟨rfl, rfl, rfl, rfl⟩
  | .retZ => .returnIf _ ⟨stores_returnIf _ s, rfl, rfl, rfl⟩
  | .ret => .returnTo ⟨rfl, rfl, rfl, rfl⟩
  | .jpZNn _ => .jumpIf _ _ ⟨rfl, rfl, rfl, rfl⟩
  | .callZNn _ => .callIf _ _ ⟨stores_callIf _ s, rfl, rfl, rfl⟩
  | .callNn _ => .callTo _ _ ⟨rfl, rfl, rfl, rfl⟩
  | .adcAN _ => .aluA _ _ _ ⟨rfl, rfl, rfl, rfl⟩
  | .rst08 => .callTo _ _ ⟨rfl, rfl, rfl, rfl⟩
  | .retNc => .returnIf _ ⟨stores_returnIf _ s, rfl, rfl, rfl⟩
  | .popDe => .popPair _ (by decide) ⟨rfl, rfl, rfl, rfl⟩
  | .jpNcNn _ => .jumpIf _ _ ⟨rfl, rfl, rfl, rfl⟩
  | .illegalD3 => .raiseUnimplemented _ (by simp [unimplementedRows]) ⟨rfl, rfl, rfl, rfl⟩
  | .callNcNn _ => .callIf _ _ ⟨stores_callIf _ s, rfl, rfl, rfl⟩
  | .pushDe => .pushPair _ ⟨rfl, rfl, rfl, rfl⟩
  | .subAN _ => .aluA _ _ _ ⟨rfl, rfl, rfl, rfl⟩
  | .rst10 => .callTo _ _ ⟨rfl, rfl, rfl, rfl⟩
  | .retC => .returnIf _ ⟨stores_returnIf _ s, rfl, rfl, rfl⟩
  | .reti => .returnFromInterrupt rfl ⟨rfl, rfl, rfl, rfl⟩
  | .jpCNn _ => .jumpIf _ _ ⟨rfl, rfl, rfl, rfl⟩
  | .illegalDB => .raiseUnimplemented _ (by simp [unimplementedRows]) ⟨rfl, rfl, rfl, rfl⟩
  | .callCNn _ => .callIf _ _ ⟨stores_callIf _ s, rfl, rfl, rfl⟩
  | .illegalDD => .raiseUnimplemented _ (by simp [unimplementedRows]) ⟨rfl, rfl, rfl, rfl⟩
  | .sbcAN _ => .aluA _ _ _ ⟨rfl, rfl, rfl, rfl⟩
  | .rst18 => .callTo _ _ ⟨rfl, rfl, rfl, rfl⟩
  | .ldhAtNA _ => .ldMem _ _ _ ⟨rfl, rfl, rfl, rfl⟩
  | .popHl => .popPair _ (by decide) ⟨rfl, rfl, rfl, rfl⟩
  | .ldhAtCA => .ldMem _ _ _ ⟨rfl, rfl, rfl, rfl⟩
  | .illegalE3 => .raiseUnimplemented _ (by simp [unimplementedRows]) ⟨rfl, rfl, rfl, rfl⟩
  | .illegalE4 => .raiseUnimplemented _ (by simp [unimplementedRows]) ⟨rfl, rfl, rfl, rfl⟩
  | .pushHl => .pushPair _ ⟨rfl, rfl, rfl, rfl⟩
  | .andAN _ => .aluA _ _ _ ⟨rfl, rfl, rfl, rfl⟩
  | .rst20 => .callTo _ _ ⟨rfl, rfl, rfl, rfl⟩
  | .addSpE _ => .addToSp _ ⟨rfl, rfl, rfl, rfl⟩
  | .jpHl => .jumpTo _ _ ⟨rfl, rfl, rfl, rfl⟩
  | .ldAtNnA _ => .ldMem _ _ _ ⟨rfl, rfl, rfl, rfl⟩
  | .illegalEB => .raiseUnimplemented _ (by simp [unimplementedRows]) ⟨rfl, rfl, rfl, rfl⟩
  | .illegalEC => .raiseUnimplemented _ (by simp [unimplementedRows]) ⟨rfl, rfl, rfl, rfl⟩
  | .illegalED => .raiseUnimplemented _ (by simp [unimplementedRows]) ⟨rfl, rfl, rfl, rfl⟩
  | .xorAN _ => .aluA _ _ _ ⟨rfl, rfl, rfl, rfl⟩
  | .rst28 => .callTo _ _ ⟨rfl, rfl, rfl, rfl⟩
  | .ldhAAtN _ => .ldRegMem _ _ _ ⟨rfl, rfl, rfl, rfl⟩
  | .popAf => .popAccumulatorFlags rfl ⟨rfl, rfl, rfl, rfl⟩
  | .ldhAAtC => .ldRegMem _ _ _ ⟨rfl, rfl, rfl, rfl⟩
  | .di => .schedule _ (.inr ⟨rfl, rfl⟩) ⟨rfl, rfl, rfl, rfl⟩
  | .illegalF4 => .raiseUnimplemented _ (by simp [unimplementedRows]) ⟨rfl, rfl, rfl, rfl⟩
  | .pushAf => .pushPair _ ⟨rfl, rfl, rfl, rfl⟩
  | .orAN _ => .aluA _ _ _ ⟨rfl, rfl, rfl, rfl⟩
  | .rst30 => .callTo _ _ ⟨rfl, rfl, rfl, rfl⟩
  | .ldHlSpE _ => .ldHlFromSp _ ⟨rfl, rfl, rfl, rfl⟩
  | .ldSpHl => .ldSpFromHl ⟨rfl, rfl, rfl, rfl⟩
  | .ldAAtNn _ => .ldRegMem _ _ _ ⟨rfl, rfl, rfl, rfl⟩
  | .ei => .schedule _ (.inl ⟨rfl, rfl⟩) ⟨rfl, rfl, rfl, rfl⟩
  | .illegalFC => .raiseUnimplemented _ (by simp [unimplementedRows]) ⟨rfl, rfl, rfl, rfl⟩
  | .illegalFD => .raiseUnimplemented _ (by simp [unimplementedRows]) ⟨rfl, rfl, rfl, rfl⟩
  | .cpAN _ => .aluA _ _ _ ⟨rfl, rfl, rfl, rfl⟩
  | .rst38 => .callTo _ _ ⟨rfl, rfl, rfl, rfl⟩
  | .rlcB => .rotateOperand _ _ ⟨rfl, rfl, rfl, rfl⟩
  | .rlcC => .rotateOperand _ _ ⟨rfl, rfl, rfl, rfl⟩
  | .rlcD => .rotateOperand _ _ ⟨rfl, rfl, rfl, rfl⟩
  | .rlcE => .rotateOperand _ _ ⟨rfl, rfl, rfl, rfl⟩
  | .rlcH => .rotateOperand _ _ ⟨rfl, rfl, rfl, rfl⟩
  | .rlcL => .rotateOperand _ _ ⟨rfl, rfl, rfl, rfl⟩
  | .rlcAtHl => .rotateOperand _ _ ⟨rfl, rfl, rfl, rfl⟩
  | .rlcA => .rotateOperand _ _ ⟨rfl, rfl, rfl, rfl⟩
  | .rrcB => .rotateOperand _ _ ⟨rfl, rfl, rfl, rfl⟩
  | .rrcC => .rotateOperand _ _ ⟨rfl, rfl, rfl, rfl⟩
  | .rrcD => .rotateOperand _ _ ⟨rfl, rfl, rfl, rfl⟩
  | .rrcE => .rotateOperand _ _ ⟨rfl, rfl, rfl, rfl⟩
  | .rrcH => .rotateOperand _ _ ⟨rfl, rfl, rfl, rfl⟩
  | .rrcL => .rotateOperand _ _ ⟨rfl, rfl, rfl, rfl⟩
  | .rrcAtHl => .rotateOperand _ _ ⟨rfl, rfl, rfl, rfl⟩
  | .rrcA => .rotateOperand _ _ ⟨rfl, rfl, rfl, rfl⟩
  | .rlB => .rotateOperand _ _ ⟨rfl, rfl, rfl, rfl⟩
  | .rlC => .rotateOperand _ _ ⟨rfl, rfl, rfl, rfl⟩
  | .rlD => .rotateOperand _ _ ⟨rfl, rfl, rfl, rfl⟩
  | .rlE => .rotateOperand _ _ ⟨rfl, rfl, rfl, rfl⟩
  | .rlH => .rotateOperand _ _ ⟨rfl, rfl, rfl, rfl⟩
  | .rlL => .rotateOperand _ _ ⟨rfl, rfl, rfl, rfl⟩
  | .rlAtHl => .rotateOperand _ _ ⟨rfl, rfl, rfl, rfl⟩
  | .rlA => .rotateOperand _ _ ⟨rfl, rfl, rfl, rfl⟩
  | .rrB => .rotateOperand _ _ ⟨rfl, rfl, rfl, rfl⟩
  | .rrC => .rotateOperand _ _ ⟨rfl, rfl, rfl, rfl⟩
  | .rrD => .rotateOperand _ _ ⟨rfl, rfl, rfl, rfl⟩
  | .rrE => .rotateOperand _ _ ⟨rfl, rfl, rfl, rfl⟩
  | .rrH => .rotateOperand _ _ ⟨rfl, rfl, rfl, rfl⟩
  | .rrL => .rotateOperand _ _ ⟨rfl, rfl, rfl, rfl⟩
  | .rrAtHl => .rotateOperand _ _ ⟨rfl, rfl, rfl, rfl⟩
  | .rrA => .rotateOperand _ _ ⟨rfl, rfl, rfl, rfl⟩
  | .slaB => .rotateOperand _ _ ⟨rfl, rfl, rfl, rfl⟩
  | .slaC => .rotateOperand _ _ ⟨rfl, rfl, rfl, rfl⟩
  | .slaD => .rotateOperand _ _ ⟨rfl, rfl, rfl, rfl⟩
  | .slaE => .rotateOperand _ _ ⟨rfl, rfl, rfl, rfl⟩
  | .slaH => .rotateOperand _ _ ⟨rfl, rfl, rfl, rfl⟩
  | .slaL => .rotateOperand _ _ ⟨rfl, rfl, rfl, rfl⟩
  | .slaAtHl => .rotateOperand _ _ ⟨rfl, rfl, rfl, rfl⟩
  | .slaA => .rotateOperand _ _ ⟨rfl, rfl, rfl, rfl⟩
  | .sraB => .rotateOperand _ _ ⟨rfl, rfl, rfl, rfl⟩
  | .sraC => .rotateOperand _ _ ⟨rfl, rfl, rfl, rfl⟩
  | .sraD => .rotateOperand _ _ ⟨rfl, rfl, rfl, rfl⟩
  | .sraE => .rotateOperand _ _ ⟨rfl, rfl, rfl, rfl⟩
  | .sraH => .rotateOperand _ _ ⟨rfl, rfl, rfl, rfl⟩
  | .sraL => .rotateOperand _ _ ⟨rfl, rfl, rfl, rfl⟩
  | .sraAtHl => .rotateOperand _ _ ⟨rfl, rfl, rfl, rfl⟩
  | .sraA => .rotateOperand _ _ ⟨rfl, rfl, rfl, rfl⟩
  | .swapB => .rotateOperand _ _ ⟨rfl, rfl, rfl, rfl⟩
  | .swapC => .rotateOperand _ _ ⟨rfl, rfl, rfl, rfl⟩
  | .swapD => .rotateOperand _ _ ⟨rfl, rfl, rfl, rfl⟩
  | .swapE => .rotateOperand _ _ ⟨rfl, rfl, rfl, rfl⟩
  | .swapH => .rotateOperand _ _ ⟨rfl, rfl, rfl, rfl⟩
  | .swapL => .rotateOperand _ _ ⟨rfl, rfl, rfl, rfl⟩
  | .swapAtHl => .rotateOperand _ _ ⟨rfl, rfl, rfl, rfl⟩
  | .swapA => .rotateOperand _ _ ⟨rfl, rfl, rfl, rfl⟩
  | .srlB => .rotateOperand _ _ ⟨rfl, rfl, rfl, rfl⟩
  | .srlC => .rotateOperand _ _ ⟨rfl, rfl, rfl, rfl⟩
  | .srlD => .rotateOperand _ _ ⟨rfl, rfl, rfl, rfl⟩
  | .srlE => .rotateOperand _ _ ⟨rfl, rfl, rfl, rfl⟩
  | .srlH => .rotateOperand _ _ ⟨rfl, rfl, rfl, rfl⟩
  | .srlL => .rotateOperand _ _ ⟨rfl, rfl, rfl, rfl⟩
  | .srlAtHl => .rotateOperand _ _ ⟨rfl, rfl, rfl, rfl⟩
  | .srlA => .rotateOperand _ _ ⟨rfl, rfl, rfl, rfl⟩
  | .bit0B => .testBit _ _ ⟨rfl, rfl, rfl, rfl⟩
  | .bit0C => .testBit _ _ ⟨rfl, rfl, rfl, rfl⟩
  | .bit0D => .testBit _ _ ⟨rfl, rfl, rfl, rfl⟩
  | .bit0E => .testBit _ _ ⟨rfl, rfl, rfl, rfl⟩
  | .bit0H => .testBit _ _ ⟨rfl, rfl, rfl, rfl⟩
  | .bit0L => .testBit _ _ ⟨rfl, rfl, rfl, rfl⟩
  | .bit0AtHl => .testBit _ _ ⟨rfl, rfl, rfl, rfl⟩
  | .bit0A => .testBit _ _ ⟨rfl, rfl, rfl, rfl⟩
  | .bit1B => .testBit _ _ ⟨rfl, rfl, rfl, rfl⟩
  | .bit1C => .testBit _ _ ⟨rfl, rfl, rfl, rfl⟩
  | .bit1D => .testBit _ _ ⟨rfl, rfl, rfl, rfl⟩
  | .bit1E => .testBit _ _ ⟨rfl, rfl, rfl, rfl⟩
  | .bit1H => .testBit _ _ ⟨rfl, rfl, rfl, rfl⟩
  | .bit1L => .testBit _ _ ⟨rfl, rfl, rfl, rfl⟩
  | .bit1AtHl => .testBit _ _ ⟨rfl, rfl, rfl, rfl⟩
  | .bit1A => .testBit _ _ ⟨rfl, rfl, rfl, rfl⟩
  | .bit2B => .testBit _ _ ⟨rfl, rfl, rfl, rfl⟩
  | .bit2C => .testBit _ _ ⟨rfl, rfl, rfl, rfl⟩
  | .bit2D => .testBit _ _ ⟨rfl, rfl, rfl, rfl⟩
  | .bit2E => .testBit _ _ ⟨rfl, rfl, rfl, rfl⟩
  | .bit2H => .testBit _ _ ⟨rfl, rfl, rfl, rfl⟩
  | .bit2L => .testBit _ _ ⟨rfl, rfl, rfl, rfl⟩
  | .bit2AtHl => .testBit _ _ ⟨rfl, rfl, rfl, rfl⟩
  | .bit2A => .testBit _ _ ⟨rfl, rfl, rfl, rfl⟩
  | .bit3B => .testBit _ _ ⟨rfl, rfl, rfl, rfl⟩
  | .bit3C => .testBit _ _ ⟨rfl, rfl, rfl, rfl⟩
  | .bit3D => .testBit _ _ ⟨rfl, rfl, rfl, rfl⟩
  | .bit3E => .testBit _ _ ⟨rfl, rfl, rfl, rfl⟩
  | .bit3H => .testBit _ _ ⟨rfl, rfl, rfl, rfl⟩
  | .bit3L => .testBit _ _ ⟨rfl, rfl, rfl, rfl⟩
  | .bit3AtHl => .testBit _ _ ⟨rfl, rfl, rfl, rfl⟩
  | .bit3A => .testBit _ _ ⟨rfl, rfl, rfl, rfl⟩
  | .bit4B => .testBit _ _ ⟨rfl, rfl, rfl, rfl⟩
  | .bit4C => .testBit _ _ ⟨rfl, rfl, rfl, rfl⟩
  | .bit4D => .testBit _ _ ⟨rfl, rfl, rfl, rfl⟩
  | .bit4E => .testBit _ _ ⟨rfl, rfl, rfl, rfl⟩
  | .bit4H => .testBit _ _ ⟨rfl, rfl, rfl, rfl⟩
  | .bit4L => .testBit _ _ ⟨rfl, rfl, rfl, rfl⟩
  | .bit4AtHl => .testBit _ _ ⟨rfl, rfl, rfl, rfl⟩
  | .bit4A => .testBit _ _ ⟨rfl, rfl, rfl, rfl⟩
  | .bit5B => .testBit _ _ ⟨rfl, rfl, rfl, rfl⟩
  | .bit5C => .testBit _ _ ⟨rfl, rfl, rfl, rfl⟩
  | .bit5D => .testBit _ _ ⟨rfl, rfl, rfl, rfl⟩
  | .bit5E => .testBit _ _ ⟨rfl, rfl, rfl, rfl⟩
  | .bit5H => .testBit _ _ ⟨rfl, rfl, rfl, rfl⟩
  | .bit5L => .testBit _ _ ⟨rfl, rfl, rfl, rfl⟩
  | .bit5AtHl => .testBit _ _ ⟨rfl, rfl, rfl, rfl⟩
  | .bit5A => .testBit _ _ ⟨rfl, rfl, rfl, rfl⟩
  | .bit6B => .testBit _ _ ⟨rfl, rfl, rfl, rfl⟩
  | .bit6C => .testBit _ _ ⟨rfl, rfl, rfl, rfl⟩
  | .bit6D => .testBit _ _ ⟨rfl, rfl, rfl, rfl⟩
  | .bit6E => .testBit _ _ ⟨rfl, rfl, rfl, rfl⟩
  | .bit6H => .testBit _ _ ⟨rfl, rfl, rfl, rfl⟩
  | .bit6L => .testBit _ _ ⟨rfl, rfl, rfl, rfl⟩
  | .bit6AtHl => .testBit _ _ ⟨rfl, rfl, rfl, rfl⟩
  | .bit6A => .testBit _ _ ⟨rfl, rfl, rfl, rfl⟩
  | .bit7B => .testBit _ _ ⟨rfl, rfl, rfl, rfl⟩
  | .bit7C => .testBit _ _ ⟨rfl, rfl, rfl, rfl⟩
  | .bit7D => .testBit _ _ ⟨rfl, rfl, rfl, rfl⟩
  | .bit7E => .testBit _ _ ⟨rfl, rfl, rfl, rfl⟩
  | .bit7H => .testBit _ _ ⟨rfl, rfl, rfl, rfl⟩
  | .bit7L => .testBit _ _ ⟨rfl, rfl, rfl, rfl⟩
  | .bit7AtHl => .testBit _ _ ⟨rfl, rfl, rfl, rfl⟩
  | .bit7A => .testBit _ _ ⟨rfl, rfl, rfl, rfl⟩
  | .res0B => .resetBit _ _ ⟨rfl, rfl, rfl, rfl⟩
  | .res0C => .resetBit _ _ ⟨rfl, rfl, rfl, rfl⟩
  | .res0D => .resetBit _ _ ⟨rfl, rfl, rfl, rfl⟩
  | .res0E => .resetBit _ _ ⟨rfl, rfl, rfl, rfl⟩
  | .res0H => .resetBit _ _ ⟨rfl, rfl, rfl, rfl⟩
  | .res0L => .resetBit _ _ ⟨rfl, rfl, rfl, rfl⟩
  | .res0AtHl => .resetBit _ _ ⟨rfl, rfl, rfl, rfl⟩
  | .res0A => .resetBit _ _ ⟨rfl, rfl, rfl, rfl⟩
  | .res1B => .resetBit _ _ ⟨rfl, rfl, rfl, rfl⟩
  | .res1C => .resetBit _ _ ⟨rfl, rfl, rfl, rfl⟩
  | .res1D => .resetBit _ _ ⟨rfl, rfl, rfl, rfl⟩
  | .res1E => .resetBit _ _ ⟨rfl, rfl, rfl, rfl⟩
  | .res1H => .resetBit _ _ ⟨rfl, rfl, rfl, rfl⟩
  | .res1L => .resetBit _ _ ⟨rfl, rfl, rfl, rfl⟩
  | .res1AtHl => .resetBit _ _ ⟨rfl, rfl, rfl, rfl⟩
  | .res1A => .resetBit _ _ ⟨rfl, rfl, rfl, rfl⟩
  | .res2B => .resetBit _ _ ⟨rfl, rfl, rfl, rfl⟩
  | .res2C => .resetBit _ _ ⟨rfl, rfl, rfl, rfl⟩
  | .res2D => .resetBit _ _ ⟨rfl, rfl, rfl, rfl⟩
  | .res2E => .resetBit _ _ ⟨rfl, rfl, rfl, rfl⟩
  | .res2H => .resetBit _ _ ⟨rfl, rfl, rfl, rfl⟩
  | .res2L => .resetBit _ _ ⟨rfl, rfl, rfl, rfl⟩
  | .res2AtHl => .resetBit _ _ ⟨rfl, rfl, rfl, rfl⟩
  | .res2A => .resetBit _ _ ⟨rfl, rfl, rfl, rfl⟩
  | .res3B => .resetBit _ _ ⟨rfl, rfl, rfl, rfl⟩
  | .res3C => .resetBit _ _ ⟨rfl, rfl, rfl, rfl⟩
  | .res3D => .resetBit _ _ ⟨rfl, rfl, rfl, rfl⟩
  | .res3E => .resetBit _ _ ⟨rfl, rfl, rfl, rfl⟩
  | .res3H => .resetBit _ _ ⟨rfl, rfl, rfl, rfl⟩
  | .res3L => .resetBit _ _ ⟨rfl, rfl, rfl, rfl⟩
  | .res3AtHl => .resetBit _ _ ⟨rfl, rfl, rfl, rfl⟩
  | .res3A => .resetBit _ _ ⟨rfl, rfl, rfl, rfl⟩
  | .res4B => .resetBit _ _ ⟨rfl, rfl, rfl, rfl⟩
  | .res4C => .resetBit _ _ ⟨rfl, rfl, rfl, rfl⟩
  | .res4D => .resetBit _ _ ⟨rfl, rfl, rfl, rfl⟩
  | .res4E => .resetBit _ _ ⟨rfl, rfl, rfl, rfl⟩
  | .res4H => .resetBit _ _ ⟨rfl, rfl, rfl, rfl⟩
  | .res4L => .resetBit _ _ ⟨rfl, rfl, rfl, rfl⟩
  | .res4AtHl => .resetBit _ _ ⟨rfl, rfl, rfl, rfl⟩
  | .res4A => .resetBit _ _ ⟨rfl, rfl, rfl, rfl⟩
  | .res5B => .resetBit _ _ ⟨rfl, rfl, rfl, rfl⟩
  | .res5C => .resetBit _ _ ⟨rfl, rfl, rfl, rfl⟩
  | .res5D => .resetBit _ _ ⟨rfl, rfl, rfl, rfl⟩
  | .res5E => .resetBit _ _ ⟨rfl, rfl, rfl, rfl⟩
  | .res5H => .resetBit _ _ ⟨rfl, rfl, rfl, rfl⟩
  | .res5L => .resetBit _ _ ⟨rfl, rfl, rfl, rfl⟩
  | .res5AtHl => .resetBit _ _ ⟨rfl, rfl, rfl, rfl⟩
  | .res5A => .resetBit _ _ ⟨rfl, rfl, rfl, rfl⟩
  | .res6B => .resetBit _ _ ⟨rfl, rfl, rfl, rfl⟩
  | .res6C => .resetBit _ _ ⟨rfl, rfl, rfl, rfl⟩
  | .res6D => .resetBit _ _ ⟨rfl, rfl, rfl, rfl⟩
  | .res6E => .resetBit _ _ ⟨rfl, rfl, rfl, rfl⟩
  | .res6H => .resetBit _ _ ⟨rfl, rfl, rfl, rfl⟩
  | .res6L => .resetBit _ _ ⟨rfl, rfl, rfl, rfl⟩
  | .res6AtHl => .resetBit _ _ ⟨rfl, rfl, rfl, rfl⟩
  | .res6A => .resetBit _ _ ⟨rfl, rfl, rfl, rfl⟩
  | .res7B => .resetBit _ _ ⟨rfl, rfl, rfl, rfl⟩
  | .res7C => .resetBit _ _ ⟨rfl, rfl, rfl, rfl⟩
  | .res7D => .resetBit _ _ ⟨rfl, rfl, rfl, rfl⟩
  | .res7E => .resetBit _ _ ⟨rfl, rfl, rfl, rfl⟩
  | .res7H => .resetBit _ _ ⟨rfl, rfl, rfl, rfl⟩
  | .res7L => .resetBit _ _ ⟨rfl, rfl, rfl, rfl⟩
  | .res7AtHl => .resetBit _ _ ⟨rfl, rfl, rfl, rfl⟩
  | .res7A => .resetBit _ _ ⟨rfl, rfl, rfl, rfl⟩
  | .set0B => .setBit _ _ ⟨rfl, rfl, rfl, rfl⟩
  | .set0C => .setBit _ _ ⟨rfl, rfl, rfl, rfl⟩
  | .set0D => .setBit _ _ ⟨rfl, rfl, rfl, rfl⟩
  | .set0E => .setBit _ _ ⟨rfl, rfl, rfl, rfl⟩
  | .set0H => .setBit _ _ ⟨rfl, rfl, rfl, rfl⟩
  | .set0L => .setBit _ _ ⟨rfl, rfl, rfl, rfl⟩
  | .set0AtHl => .setBit _ _ ⟨rfl, rfl, rfl, rfl⟩
  | .set0A => .setBit _ _ ⟨rfl, rfl, rfl, rfl⟩
  | .set1B => .setBit _ _ ⟨rfl, rfl, rfl, rfl⟩
  | .set1C => .setBit _ _ ⟨rfl, rfl, rfl, rfl⟩
  | .set1D => .setBit _ _ ⟨rfl, rfl, rfl, rfl⟩
  | .set1E => .setBit _ _ ⟨rfl, rfl, rfl, rfl⟩
  | .set1H => .setBit _ _ ⟨rfl, rfl, rfl, rfl⟩
  | .set1L => .setBit _ _ ⟨rfl, rfl, rfl, rfl⟩
  | .set1AtHl => .setBit _ _ ⟨rfl, rfl, rfl, rfl⟩
  | .set1A => .setBit _ _ ⟨rfl, rfl, rfl, rfl⟩
  | .set2B => .setBit _ _ ⟨rfl, rfl, rfl, rfl⟩
  | .set2C => .setBit _ _ ⟨rfl, rfl, rfl, rfl⟩
  | .set2D => .setBit _ _ ⟨rfl, rfl, rfl, rfl⟩
  | .set2E => .setBit _ _ ⟨rfl, rfl, rfl, rfl⟩
  | .set2H => .setBit _ _ ⟨rfl, rfl, rfl, rfl⟩
  | .set2L => .setBit _ _ ⟨rfl, rfl, rfl, rfl⟩
  | .set2AtHl => .setBit _ _ ⟨rfl, rfl, rfl, rfl⟩
  | .set2A => .setBit _ _ ⟨rfl, rfl, rfl, rfl⟩
  | .set3B => .setBit _ _ ⟨rfl, rfl, rfl, rfl⟩
  | .set3C => .setBit _ _ ⟨rfl, rfl, rfl, rfl⟩
  | .set3D => .setBit _ _ ⟨rfl, rfl, rfl, rfl⟩
  | .set3E => .setBit _ _ ⟨rfl, rfl, rfl, rfl⟩
  | .set3H => .setBit _ _ ⟨rfl, rfl, rfl, rfl⟩
  | .set3L => .setBit _ _ ⟨rfl, rfl, rfl, rfl⟩
  | .set3AtHl => .setBit _ _ ⟨rfl, rfl, rfl, rfl⟩
  | .set3A => .setBit _ _ ⟨rfl, rfl, rfl, rfl⟩
  | .set4B => .setBit _ _ ⟨rfl, rfl, rfl, rfl⟩
  | .set4C => .setBit _ _ ⟨rfl, rfl, rfl, rfl⟩
  | .set4D => .setBit _ _ ⟨rfl, rfl, rfl, rfl⟩
  | .set4E => .setBit _ _ ⟨rfl, rfl, rfl, rfl⟩
  | .set4H => .setBit _ _ ⟨rfl, rfl, rfl, rfl⟩
  | .set4L => .setBit _ _ ⟨rfl, rfl, rfl, rfl⟩
  | .set4AtHl => .setBit _ _ ⟨rfl, rfl, rfl, rfl⟩
  | .set4A => .setBit _ _ ⟨rfl, rfl, rfl, rfl⟩
  | .set5B => .setBit _ _ ⟨rfl, rfl, rfl, rfl⟩
  | .set5C => .setBit _ _ ⟨rfl, rfl, rfl, rfl⟩
  | .set5D => .setBit _ _ ⟨rfl, rfl, rfl, rfl⟩
  | .set5E => .setBit _ _ ⟨rfl, rfl, rfl, rfl⟩
  | .set5H => .setBit _ _ ⟨rfl, rfl, rfl, rfl⟩
  | .set5L => .setBit _ _ ⟨rfl, rfl, rfl, rfl⟩
  | .set5AtHl => .setBit _ _ ⟨rfl, rfl, rfl, rfl⟩
  | .set5A => .setBit _ _ ⟨rfl, rfl, rfl, rfl⟩
  | .set6B => .setBit _ _ ⟨rfl, rfl, rfl, rfl⟩
  | .set6C => .setBit _ _ ⟨rfl, rfl, rfl, rfl⟩
  | .set6D => .setBit _ _ ⟨rfl, rfl, rfl, rfl⟩
  | .set6E => .setBit _ _ ⟨rfl, rfl, rfl, rfl⟩
  | .set6H => .setBit _ _ ⟨rfl, rfl, rfl, rfl⟩
  | .set6L => .setBit _ _ ⟨rfl, rfl, rfl, rfl⟩
  | .set6AtHl => .setBit _ _ ⟨rfl, rfl, rfl, rfl⟩
  | .set6A => .setBit _ _ ⟨rfl, rfl, rfl, rfl⟩
  | .set7B => .setBit _ _ ⟨rfl, rfl, rfl, rfl⟩
  | .set7C => .setBit _ _ ⟨rfl, rfl, rfl, rfl⟩
  | .set7D => .setBit _ _ ⟨rfl, rfl, rfl, rfl⟩
  | .set7E => .setBit _ _ ⟨rfl, rfl, rfl, rfl⟩
  | .set7H => .setBit _ _ ⟨rfl, rfl, rfl, rfl⟩
  | .set7L => .setBit _ _ ⟨rfl, rfl, rfl, rfl⟩
  | .set7AtHl => .setBit _ _ ⟨rfl, rfl, rfl, rfl⟩
  | .set7A => .setBit _ _ ⟨rfl, rfl, rfl, rfl⟩

/-- Where `exec` answers a next state, a shared meaning answers it. -/
theorem runsAs_of_next {i : Instr} {s t : State} (h : exec i s = .next t) : ∃ r, RunsAs i s r ∧ r = .next t := ⟨_, exec_runsAs i s, h⟩

end Sys2Proof.Machine
end

