-- ==== Sys2Proof/Laws/Step.lean ====
section
/-! SUPPORT. The step: the state in which an instruction's rule runs (40_dispatch.md R143, R144), what `execute` answers once the bytes are decoded, and how `exec` can end. -/

namespace Sys2Proof.Machine

/-- The thirteen rows in the two forms in which the model lists them (R143). -/
theorem isUnimplemented_iff (i : Instr) : isUnimplemented i = true ↔ i ∈ unimplementedRows.map Prod.fst := by
  constructor
  · intro h
    unfold isUnimplemented at h
    split at h <;> first | simp [unimplementedRows]; done | cases h
  · intro h
    simp only [unimplementedRows, List.map, List.mem_cons, List.not_mem_nil, or_false] at h
    rcases h with rfl | rfl | rfl | rfl | rfl | rfl | rfl | rfl | rfl | rfl | rfl | rfl | rfl <;> rfl

/-- The pending edge applied, as one record update (R144). -/
theorem applyPendingEdge_eq (s : State) : s.applyPendingEdge = { s with ime := imeAfterEdge s, pending := .idle } := by
  obtain ⟨_, _, _, _, _, _, _, _, _, _, _, pending, _, _⟩ := s
  cases pending <;> rfl

/-- Before the rule of one of the thirteen nothing happens (R143). -/
theorem beforeRule_unimplemented {i : Instr} (s : State) (h : i ∈ unimplementedRows.map Prod.fst) : beforeRule i s = s :=
  if_pos ((isUnimplemented_iff i).2 h)

/-- Before every other rule the pending edge is applied (R144). -/
theorem beforeRule_other {i : Instr} (s : State) (h : i ∉ unimplementedRows.map Prod.fst) :
    beforeRule i s = { s with ime := imeAfterEdge s, pending := .idle } :=
  (if_neg fun hi => h ((isUnimplemented_iff i).1 hi)).trans (applyPendingEdge_eq s)

/-- What comes before the rule changes neither memory nor F nor the parameters. -/
theorem beforeRule_same (i : Instr) (s : State) :
    (beforeRule i s).mem = s.mem ∧ (beforeRule i s).f = s.f ∧ (beforeRule i s).params = s.params := by
  unfold beforeRule
  split <;> simp

/-- `execute` once its bytes are decoded (R140). -/
theorem execute_decoded {src : FetchSource} {s : State} {i : Instr} (h : decodeFrom (fetchByte src s) = .ok i) :
    (execute src s).outcome = exec i (beforeRule i s) ∧
      ∀ t n, execute src s = .ok t n ↔ exec i (beforeRule i s) = .next t ∧ n = cycles i s := by
  unfold execute
  rw [h]
  simp only
  cases exec i (beforeRule i s) <;> simp [StepResult.outcome]
  exact fun _ _ _ => eq_comm

/-- In `ClosedMemory` the bytes always decode (R141). -/
theorem closedMemory_decodes (s : State) : ∃ i, decodeFrom (fetchByte .closedMemory s) = .ok i := by
  unfold decodeFrom fetchByte
  simp only
  generalize primaryEntry _ = entry
  cases entry <;> exact ⟨_, rfl⟩

/-- The inversion of `step`: what it answers is `exec` of the decoded instruction. -/
theorem step_decoded (s : State) : ∃ i, decodeFrom (fetchByte .closedMemory s) = .ok i ∧ step s = exec i (beforeRule i s) := by
  obtain ⟨i, h⟩ := closedMemory_decodes s
  exact ⟨i, h, (execute_decoded h).1⟩

/-- How `exec` ends: in a next state, or, for one of the thirteen, in its fault (R380). -/
theorem exec_ends (i : Instr) (s : State) :
    (∃ t, exec i s = .next t) ∨ ∃ op, (i, op) ∈ unimplementedRows ∧ exec i s = .fault (.unimplementedOpcode op s.pc) := by
  have h := exec_runsAs i s
  generalize exec i s = r at h
  cases h
  case raiseUnimplemented op hm _ => exact .inr ⟨op, hm, rfl⟩
  case jumpIf cc nn _ => exact .inl ((jumpIf_spec cc nn s).imp fun _ h => h.1)
  case jumpRelativeIf cc e _ => exact .inl ((jumpRelativeIf_spec cc e s).imp fun _ h => h.1)
  case callIf cc nn _ => exact .inl ((callIf_spec cc nn s).imp fun _ h => h.1)
  case returnIf cc _ => exact .inl ((returnIf_spec cc s).imp fun _ h => h.1)
  all_goals exact .inl ⟨_, rfl⟩

end Sys2Proof.Machine
end

