-- ==== Sys2Proof/Tests/Slice0.lean ====
section
/-! SUPPORT. The model's own tests. Every expected value is the spec's: the words of opcode_table.json for the decoder, and for the single steps the example or the corner case of the rule
that the test's docstring names. At the end a named witness for each obligation that has hypotheses. -/

namespace Sys2Proof.Tests

open Sys2Proof Sys2Proof.Machine

/-! ## Ill-formed terms (R112): one for each row with a displacement, at both ends of its range -/

theorem test_wf_jrE : (Instr.jrE 128).WellFormed = false ∧ (Instr.jrE 127).WellFormed = true := by decide
theorem test_wf_jrNzE : (Instr.jrNzE (-129)).WellFormed = false ∧ (Instr.jrNzE (-128)).WellFormed = true := by decide
theorem test_wf_jrZE : (Instr.jrZE 128).WellFormed = false ∧ (Instr.jrZE 127).WellFormed = true := by decide
theorem test_wf_jrNcE : (Instr.jrNcE (-129)).WellFormed = false ∧ (Instr.jrNcE (-128)).WellFormed = true := by decide
theorem test_wf_jrCE : (Instr.jrCE 254).WellFormed = false ∧ (Instr.jrCE (-2)).WellFormed = true := by decide
theorem test_wf_addSpE : (Instr.addSpE 255).WellFormed = false ∧ (Instr.addSpE (-1)).WellFormed = true := by decide
theorem test_wf_ldHlSpE : (Instr.ldHlSpE (-129)).WellFormed = false ∧ (Instr.ldHlSpE 0).WellFormed = true := by decide

/-! ## Decoding: every row of the table by its word, with the operand bytes 0x34 and 0x92 (R110 to R112) -/

theorem test_decode_00 : ([0x00, 0x01, 0x02, 0x03, 0x04, 0x05, 0x06, 0x07] : List Byte).map (fun op => decode [op, 0x34, 0x92]) =
    [.ok (.nop, [0x34, 0x92]), .ok (.ldBcNn 0x9234, []), .ok (.ldAtBcA, [0x34, 0x92]), .ok (.incBc, [0x34, 0x92]), .ok (.incB, [0x34, 0x92]), .ok (.decB, [0x34, 0x92]), .ok (.ldBN 0x34, [0x92]), .ok (.rlca, [0x34, 0x92])] := rfl
theorem test_decode_08 : ([0x08, 0x09, 0x0A, 0x0B, 0x0C, 0x0D, 0x0E, 0x0F] : List Byte).map (fun op => decode [op, 0x34, 0x92]) =
    [.ok (.ldAtNnSp 0x9234, []), .ok (.addHlBc, [0x34, 0x92]), .ok (.ldAAtBc, [0x34, 0x92]), .ok (.decBc, [0x34, 0x92]), .ok (.incC, [0x34, 0x92]), .ok (.decC, [0x34, 0x92]), .ok (.ldCN 0x34, [0x92]), .ok (.rrca, [0x34, 0x92])] := rfl
theorem test_decode_10 : ([0x10, 0x11, 0x12, 0x13, 0x14, 0x15, 0x16, 0x17] : List Byte).map (fun op => decode [op, 0x34, 0x92]) =
    [.ok (.stop, [0x34, 0x92]), .ok (.ldDeNn 0x9234, []), .ok (.ldAtDeA, [0x34, 0x92]), .ok (.incDe, [0x34, 0x92]), .ok (.incD, [0x34, 0x92]), .ok (.decD, [0x34, 0x92]), .ok (.ldDN 0x34, [0x92]), .ok (.rla, [0x34, 0x92])] := rfl
theorem test_decode_18 : ([0x18, 0x19, 0x1A, 0x1B, 0x1C, 0x1D, 0x1E, 0x1F] : List Byte).map (fun op => decode [op, 0x34, 0x92]) =
    [.ok (.jrE 0x34, [0x92]), .ok (.addHlDe, [0x34, 0x92]), .ok (.ldAAtDe, [0x34, 0x92]), .ok (.decDe, [0x34, 0x92]), .ok (.incE, [0x34, 0x92]), .ok (.decE, [0x34, 0x92]), .ok (.ldEN 0x34, [0x92]), .ok (.rra, [0x34, 0x92])] := rfl
theorem test_decode_20 : ([0x20, 0x21, 0x22, 0x23, 0x24, 0x25, 0x26, 0x27] : List Byte).map (fun op => decode [op, 0x34, 0x92]) =
    [.ok (.jrNzE 0x34, [0x92]), .ok (.ldHlNn 0x9234, []), .ok (.ldAtHlIncA, [0x34, 0x92]), .ok (.incHl, [0x34, 0x92]), .ok (.incH, [0x34, 0x92]), .ok (.decH, [0x34, 0x92]), .ok (.ldHN 0x34, [0x92]), .ok (.daa, [0x34, 0x92])] := rfl
theorem test_decode_28 : ([0x28, 0x29, 0x2A, 0x2B, 0x2C, 0x2D, 0x2E, 0x2F] : List Byte).map (fun op => decode [op, 0x34, 0x92]) =
    [.ok (.jrZE 0x34, [0x92]), .ok (.addHlHl, [0x34, 0x92]), .ok (.ldAAtHlInc, [0x34, 0x92]), .ok (.decHl, [0x34, 0x92]), .ok (.incL, [0x34, 0x92]), .ok (.decL, [0x34, 0x92]), .ok (.ldLN 0x34, [0x92]), .ok (.cpl, [0x34, 0x92])] := rfl
theorem test_decode_30 : ([0x30, 0x31, 0x32, 0x33, 0x34, 0x35, 0x36, 0x37] : List Byte).map (fun op => decode [op, 0x34, 0x92]) =
    [.ok (.jrNcE 0x34, [0x92]), .ok (.ldSpNn 0x9234, []), .ok (.ldAtHlDecA, [0x34, 0x92]), .ok (.incSp, [0x34, 0x92]), .ok (.incAtHl, [0x34, 0x92]), .ok (.decAtHl, [0x34, 0x92]), .ok (.ldAtHlN 0x34, [0x92]), .ok (.scf, [0x34, 0x92])] := rfl
theorem test_decode_38 : ([0x38, 0x39, 0x3A, 0x3B, 0x3C, 0x3D, 0x3E, 0x3F] : List Byte).map (fun op => decode [op, 0x34, 0x92]) =
    [.ok (.jrCE 0x34, [0x92]), .ok (.addHlSp, [0x34, 0x92]), .ok (.ldAAtHlDec, [0x34, 0x92]), .ok (.decSp, [0x34, 0x92]), .ok (.incA, [0x34, 0x92]), .ok (.decA, [0x34, 0x92]), .ok (.ldAN 0x34, [0x92]), .ok (.ccf, [0x34, 0x92])] := rfl
theorem test_decode_40 : ([0x40, 0x41, 0x42, 0x43, 0x44, 0x45, 0x46, 0x47] : List Byte).map (fun op => decode [op, 0x34, 0x92]) =
    [.ok (.ldBB, [0x34, 0x92]), .ok (.ldBC, [0x34, 0x92]), .ok (.ldBD, [0x34, 0x92]), .ok (.ldBE, [0x34, 0x92]), .ok (.ldBH, [0x34, 0x92]), .ok (.ldBL, [0x34, 0x92]), .ok (.ldBAtHl, [0x34, 0x92]), .ok (.ldBA, [0x34, 0x92])] := rfl
theorem test_decode_48 : ([0x48, 0x49, 0x4A, 0x4B, 0x4C, 0x4D, 0x4E, 0x4F] : List Byte).map (fun op => decode [op, 0x34, 0x92]) =
    [.ok (.ldCB, [0x34, 0x92]), .ok (.ldCC, [0x34, 0x92]), .ok (.ldCD, [0x34, 0x92]), .ok (.ldCE, [0x34, 0x92]), .ok (.ldCH, [0x34, 0x92]), .ok (.ldCL, [0x34, 0x92]), .ok (.ldCAtHl, [0x34, 0x92]), .ok (.ldCA, [0x34, 0x92])] := rfl
theorem test_decode_50 : ([0x50, 0x51, 0x52, 0x53, 0x54, 0x55, 0x56, 0x57] : List Byte).map (fun op => decode [op, 0x34, 0x92]) =
    [.ok (.ldDB, [0x34, 0x92]), .ok (.ldDC, [0x34, 0x92]), .ok (.ldDD, [0x34, 0x92]), .ok (.ldDE, [0x34, 0x92]), .ok (.ldDH, [0x34, 0x92]), .ok (.ldDL, [0x34, 0x92]), .ok (.ldDAtHl, [0x34, 0x92]), .ok (.ldDA, [0x34, 0x92])] := rfl
theorem test_decode_58 : ([0x58, 0x59, 0x5A, 0x5B, 0x5C, 0x5D, 0x5E, 0x5F] : List Byte).map (fun op => decode [op, 0x34, 0x92]) =
    [.ok (.ldEB, [0x34, 0x92]), .ok (.ldEC, [0x34, 0x92]), .ok (.ldED, [0x34, 0x92]), .ok (.ldEE, [0x34, 0x92]), .ok (.ldEH, [0x34, 0x92]), .ok (.ldEL, [0x34, 0x92]), .ok (.ldEAtHl, [0x34, 0x92]), .ok (.ldEA, [0x34, 0x92])] := rfl
theorem test_decode_60 : ([0x60, 0x61, 0x62, 0x63, 0x64, 0x65, 0x66, 0x67] : List Byte).map (fun op => decode [op, 0x34, 0x92]) =
    [.ok (.ldHB, [0x34, 0x92]), .ok (.ldHC, [0x34, 0x92]), .ok (.ldHD, [0x34, 0x92]), .ok (.ldHE, [0x34, 0x92]), .ok (.ldHH, [0x34, 0x92]), .ok (.ldHL, [0x34, 0x92]), .ok (.ldHAtHl, [0x34, 0x92]), .ok (.ldHA, [0x34, 0x92])] := rfl
theorem test_decode_68 : ([0x68, 0x69, 0x6A, 0x6B, 0x6C, 0x6D, 0x6E, 0x6F] : List Byte).map (fun op => decode [op, 0x34, 0x92]) =
    [.ok (.ldLB, [0x34, 0x92]), .ok (.ldLC, [0x34, 0x92]), .ok (.ldLD, [0x34, 0x92]), .ok (.ldLE, [0x34, 0x92]), .ok (.ldLH, [0x34, 0x92]), .ok (.ldLL, [0x34, 0x92]), .ok (.ldLAtHl, [0x34, 0x92]), .ok (.ldLA, [0x34, 0x92])] := rfl
theorem test_decode_70 : ([0x70, 0x71, 0x72, 0x73, 0x74, 0x75, 0x76, 0x77] : List Byte).map (fun op => decode [op, 0x34, 0x92]) =
    [.ok (.ldAtHlB, [0x34, 0x92]), .ok (.ldAtHlC, [0x34, 0x92]), .ok (.ldAtHlD, [0x34, 0x92]), .ok (.ldAtHlE, [0x34, 0x92]), .ok (.ldAtHlH, [0x34, 0x92]), .ok (.ldAtHlL, [0x34, 0x92]), .ok (.halt, [0x34, 0x92]), .ok (.ldAtHlA, [0x34, 0x92])] := rfl
theorem test_decode_78 : ([0x78, 0x79, 0x7A, 0x7B, 0x7C, 0x7D, 0x7E, 0x7F] : List Byte).map (fun op => decode [op, 0x34, 0x92]) =
    [.ok (.ldAB, [0x34, 0x92]), .ok (.ldAC, [0x34, 0x92]), .ok (.ldAD, [0x34, 0x92]), .ok (.ldAE, [0x34, 0x92]), .ok (.ldAH, [0x34, 0x92]), .ok (.ldAL, [0x34, 0x92]), .ok (.ldAAtHl, [0x34, 0x92]), .ok (.ldAA, [0x34, 0x92])] := rfl
theorem test_decode_80 : ([0x80, 0x81, 0x82, 0x83, 0x84, 0x85, 0x86, 0x87] : List Byte).map (fun op => decode [op, 0x34, 0x92]) =
    [.ok (.addAB, [0x34, 0x92]), .ok (.addAC, [0x34, 0x92]), .ok (.addAD, [0x34, 0x92]), .ok (.addAE, [0x34, 0x92]), .ok (.addAH, [0x34, 0x92]), .ok (.addAL, [0x34, 0x92]), .ok (.addAAtHl, [0x34, 0x92]), .ok (.addAA, [0x34, 0x92])] := rfl
theorem test_decode_88 : ([0x88, 0x89, 0x8A, 0x8B, 0x8C, 0x8D, 0x8E, 0x8F] : List Byte).map (fun op => decode [op, 0x34, 0x92]) =
    [.ok (.adcAB, [0x34, 0x92]), .ok (.adcAC, [0x34, 0x92]), .ok (.adcAD, [0x34, 0x92]), .ok (.adcAE, [0x34, 0x92]), .ok (.adcAH, [0x34, 0x92]), .ok (.adcAL, [0x34, 0x92]), .ok (.adcAAtHl, [0x34, 0x92]), .ok (.adcAA, [0x34, 0x92])] := rfl
theorem test_decode_90 : ([0x90, 0x91, 0x92, 0x93, 0x94, 0x95, 0x96, 0x97] : List Byte).map (fun op => decode [op, 0x34, 0x92]) =
    [.ok (.subAB, [0x34, 0x92]), .ok (.subAC, [0x34, 0x92]), .ok (.subAD, [0x34, 0x92]), .ok (.subAE, [0x34, 0x92]), .ok (.subAH, [0x34, 0x92]), .ok (.subAL, [0x34, 0x92]), .ok (.subAAtHl, [0x34, 0x92]), .ok (.subAA, [0x34, 0x92])] := rfl
theorem test_decode_98 : ([0x98, 0x99, 0x9A, 0x9B, 0x9C, 0x9D, 0x9E, 0x9F] : List Byte).map (fun op => decode [op, 0x34, 0x92]) =
    [.ok (.sbcAB, [0x34, 0x92]), .ok (.sbcAC, [0x34, 0x92]), .ok (.sbcAD, [0x34, 0x92]), .ok (.sbcAE, [0x34, 0x92]), .ok (.sbcAH, [0x34, 0x92]), .ok (.sbcAL, [0x34, 0x92]), .ok (.sbcAAtHl, [0x34, 0x92]), .ok (.sbcAA, [0x34, 0x92])] := rfl
theorem test_decode_A0 : ([0xA0, 0xA1, 0xA2, 0xA3, 0xA4, 0xA5, 0xA6, 0xA7] : List Byte).map (fun op => decode [op, 0x34, 0x92]) =
    [.ok (.andAB, [0x34, 0x92]), .ok (.andAC, [0x34, 0x92]), .ok (.andAD, [0x34, 0x92]), .ok (.andAE, [0x34, 0x92]), .ok (.andAH, [0x34, 0x92]), .ok (.andAL, [0x34, 0x92]), .ok (.andAAtHl, [0x34, 0x92]), .ok (.andAA, [0x34, 0x92])] := rfl
theorem test_decode_A8 : ([0xA8, 0xA9, 0xAA, 0xAB, 0xAC, 0xAD, 0xAE, 0xAF] : List Byte).map (fun op => decode [op, 0x34, 0x92]) =
    [.ok (.xorAB, [0x34, 0x92]), .ok (.xorAC, [0x34, 0x92]), .ok (.xorAD, [0x34, 0x92]), .ok (.xorAE, [0x34, 0x92]), .ok (.xorAH, [0x34, 0x92]), .ok (.xorAL, [0x34, 0x92]), .ok (.xorAAtHl, [0x34, 0x92]), .ok (.xorAA, [0x34, 0x92])] := rfl
theorem test_decode_B0 : ([0xB0, 0xB1, 0xB2, 0xB3, 0xB4, 0xB5, 0xB6, 0xB7] : List Byte).map (fun op => decode [op, 0x34, 0x92]) =
    [.ok (.orAB, [0x34, 0x92]), .ok (.orAC, [0x34, 0x92]), .ok (.orAD, [0x34, 0x92]), .ok (.orAE, [0x34, 0x92]), .ok (.orAH, [0x34, 0x92]), .ok (.orAL, [0x34, 0x92]), .ok (.orAAtHl, [0x34, 0x92]), .ok (.orAA, [0x34, 0x92])] := rfl
theorem test_decode_B8 : ([0xB8, 0xB9, 0xBA, 0xBB, 0xBC, 0xBD, 0xBE, 0xBF] : List Byte).map (fun op => decode [op, 0x34, 0x92]) =
    [.ok (.cpAB, [0x34, 0x92]), .ok (.cpAC, [0x34, 0x92]), .ok (.cpAD, [0x34, 0x92]), .ok (.cpAE, [0x34, 0x92]), .ok (.cpAH, [0x34, 0x92]), .ok (.cpAL, [0x34, 0x92]), .ok (.cpAAtHl, [0x34, 0x92]), .ok (.cpAA, [0x34, 0x92])] := rfl
theorem test_decode_C0 : ([0xC0, 0xC1, 0xC2, 0xC3, 0xC4, 0xC5, 0xC6, 0xC7] : List Byte).map (fun op => decode [op, 0x34, 0x92]) =
    [.ok (.retNz, [0x34, 0x92]), .ok (.popBc, [0x34, 0x92]), .ok (.jpNzNn 0x9234, []), .ok (.jpNn 0x9234, []), .ok (.callNzNn 0x9234, []), .ok (.pushBc, [0x34, 0x92]), .ok (.addAN 0x34, [0x92]), .ok (.rst00, [0x34, 0x92])] := rfl
theorem test_decode_C8 : ([0xC8, 0xC9, 0xCA, 0xCC, 0xCD, 0xCE, 0xCF] : List Byte).map (fun op => decode [op, 0x34, 0x92]) =
    [.ok (.retZ, [0x34, 0x92]), .ok (.ret, [0x34, 0x92]), .ok (.jpZNn 0x9234, []), .ok (.callZNn 0x9234, []), .ok (.callNn 0x9234, []), .ok (.adcAN 0x34, [0x92]), .ok (.rst08, [0x34, 0x92])] := rfl
theorem test_decode_D0 : ([0xD0, 0xD1, 0xD2, 0xD3, 0xD4, 0xD5, 0xD6, 0xD7] : List Byte).map (fun op => decode [op, 0x34, 0x92]) =
    [.ok (.retNc, [0x34, 0x92]), .ok (.popDe, [0x34, 0x92]), .ok (.jpNcNn 0x9234, []), .ok (.illegalD3, [0x34, 0x92]), .ok (.callNcNn 0x9234, []), .ok (.pushDe, [0x34, 0x92]), .ok (.subAN 0x34, [0x92]), .ok (.rst10, [0x34, 0x92])] := rfl
theorem test_decode_D8 : ([0xD8, 0xD9, 0xDA, 0xDB, 0xDC, 0xDD, 0xDE, 0xDF] : List Byte).map (fun op => decode [op, 0x34, 0x92]) =
    [.ok (.retC, [0x34, 0x92]), .ok (.reti, [0x34, 0x92]), .ok (.jpCNn 0x9234, []), .ok (.illegalDB, [0x34, 0x92]), .ok (.callCNn 0x9234, []), .ok (.illegalDD, [0x34, 0x92]), .ok (.sbcAN 0x34, [0x92]), .ok (.rst18, [0x34, 0x92])] := rfl
theorem test_decode_E0 : ([0xE0, 0xE1, 0xE2, 0xE3, 0xE4, 0xE5, 0xE6, 0xE7] : List Byte).map (fun op => decode [op, 0x34, 0x92]) =
    [.ok (.ldhAtNA 0x34, [0x92]), .ok (.popHl, [0x34, 0x92]), .ok (.ldhAtCA, [0x34, 0x92]), .ok (.illegalE3, [0x34, 0x92]), .ok (.illegalE4, [0x34, 0x92]), .ok (.pushHl, [0x34, 0x92]), .ok (.andAN 0x34, [0x92]), .ok (.rst20, [0x34, 0x92])] := rfl
theorem test_decode_E8 : ([0xE8, 0xE9, 0xEA, 0xEB, 0xEC, 0xED, 0xEE, 0xEF] : List Byte).map (fun op => decode [op, 0x34, 0x92]) =
    [.ok (.addSpE 0x34, [0x92]), .ok (.jpHl, [0x34, 0x92]), .ok (.ldAtNnA 0x9234, []), .ok (.illegalEB, [0x34, 0x92]), .ok (.illegalEC, [0x34, 0x92]), .ok (.illegalED, [0x34, 0x92]), .ok (.xorAN 0x34, [0x92]), .ok (.rst28, [0x34, 0x92])] := rfl
theorem test_decode_F0 : ([0xF0, 0xF1, 0xF2, 0xF3, 0xF4, 0xF5, 0xF6, 0xF7] : List Byte).map (fun op => decode [op, 0x34, 0x92]) =
    [.ok (.ldhAAtN 0x34, [0x92]), .ok (.popAf, [0x34, 0x92]), .ok (.ldhAAtC, [0x34, 0x92]), .ok (.di, [0x34, 0x92]), .ok (.illegalF4, [0x34, 0x92]), .ok (.pushAf, [0x34, 0x92]), .ok (.orAN 0x34, [0x92]), .ok (.rst30, [0x34, 0x92])] := rfl
theorem test_decode_F8 : ([0xF8, 0xF9, 0xFA, 0xFB, 0xFC, 0xFD, 0xFE, 0xFF] : List Byte).map (fun op => decode [op, 0x34, 0x92]) =
    [.ok (.ldHlSpE 0x34, [0x92]), .ok (.ldSpHl, [0x34, 0x92]), .ok (.ldAAtNn 0x9234, []), .ok (.ei, [0x34, 0x92]), .ok (.illegalFC, [0x34, 0x92]), .ok (.illegalFD, [0x34, 0x92]), .ok (.cpAN 0x34, [0x92]), .ok (.rst38, [0x34, 0x92])] := rfl
theorem test_decode_CB0 : ([0x00, 0x01, 0x02, 0x03, 0x04, 0x05, 0x06, 0x07, 0x08, 0x09, 0x0A, 0x0B, 0x0C, 0x0D, 0x0E, 0x0F] : List Byte).map (fun op => decode [0xCB, op, 0x92]) =
    [.ok (.rlcB, [0x92]), .ok (.rlcC, [0x92]), .ok (.rlcD, [0x92]), .ok (.rlcE, [0x92]), .ok (.rlcH, [0x92]), .ok (.rlcL, [0x92]), .ok (.rlcAtHl, [0x92]), .ok (.rlcA, [0x92]), .ok (.rrcB, [0x92]), .ok (.rrcC, [0x92]), .ok (.rrcD, [0x92]), .ok (.rrcE, [0x92]), .ok (.rrcH, [0x92]), .ok (.rrcL, [0x92]), .ok (.rrcAtHl, [0x92]), .ok (.rrcA, [0x92])] := rfl
theorem test_decode_CB1 : ([0x10, 0x11, 0x12, 0x13, 0x14, 0x15, 0x16, 0x17, 0x18, 0x19, 0x1A, 0x1B, 0x1C, 0x1D, 0x1E, 0x1F] : List Byte).map (fun op => decode [0xCB, op, 0x92]) =
    [.ok (.rlB, [0x92]), .ok (.rlC, [0x92]), .ok (.rlD, [0x92]), .ok (.rlE, [0x92]), .ok (.rlH, [0x92]), .ok (.rlL, [0x92]), .ok (.rlAtHl, [0x92]), .ok (.rlA, [0x92]), .ok (.rrB, [0x92]), .ok (.rrC, [0x92]), .ok (.rrD, [0x92]), .ok (.rrE, [0x92]), .ok (.rrH, [0x92]), .ok (.rrL, [0x92]), .ok (.rrAtHl, [0x92]), .ok (.rrA, [0x92])] := rfl
theorem test_decode_CB2 : ([0x20, 0x21, 0x22, 0x23, 0x24, 0x25, 0x26, 0x27, 0x28, 0x29, 0x2A, 0x2B, 0x2C, 0x2D, 0x2E, 0x2F] : List Byte).map (fun op => decode [0xCB, op, 0x92]) =
    [.ok (.slaB, [0x92]), .ok (.slaC, [0x92]), .ok (.slaD, [0x92]), .ok (.slaE, [0x92]), .ok (.slaH, [0x92]), .ok (.slaL, [0x92]), .ok (.slaAtHl, [0x92]), .ok (.slaA, [0x92]), .ok (.sraB, [0x92]), .ok (.sraC, [0x92]), .ok (.sraD, [0x92]), .ok (.sraE, [0x92]), .ok (.sraH, [0x92]), .ok (.sraL, [0x92]), .ok (.sraAtHl, [0x92]), .ok (.sraA, [0x92])] := rfl
theorem test_decode_CB3 : ([0x30, 0x31, 0x32, 0x33, 0x34, 0x35, 0x36, 0x37, 0x38, 0x39, 0x3A, 0x3B, 0x3C, 0x3D, 0x3E, 0x3F] : List Byte).map (fun op => decode [0xCB, op, 0x92]) =
    [.ok (.swapB, [0x92]), .ok (.swapC, [0x92]), .ok (.swapD, [0x92]), .ok (.swapE, [0x92]), .ok (.swapH, [0x92]), .ok (.swapL, [0x92]), .ok (.swapAtHl, [0x92]), .ok (.swapA, [0x92]), .ok (.srlB, [0x92]), .ok (.srlC, [0x92]), .ok (.srlD, [0x92]), .ok (.srlE, [0x92]), .ok (.srlH, [0x92]), .ok (.srlL, [0x92]), .ok (.srlAtHl, [0x92]), .ok (.srlA, [0x92])] := rfl
theorem test_decode_CB4 : ([0x40, 0x41, 0x42, 0x43, 0x44, 0x45, 0x46, 0x47, 0x48, 0x49, 0x4A, 0x4B, 0x4C, 0x4D, 0x4E, 0x4F] : List Byte).map (fun op => decode [0xCB, op, 0x92]) =
    [.ok (.bit0B, [0x92]), .ok (.bit0C, [0x92]), .ok (.bit0D, [0x92]), .ok (.bit0E, [0x92]), .ok (.bit0H, [0x92]), .ok (.bit0L, [0x92]), .ok (.bit0AtHl, [0x92]), .ok (.bit0A, [0x92]), .ok (.bit1B, [0x92]), .ok (.bit1C, [0x92]), .ok (.bit1D, [0x92]), .ok (.bit1E, [0x92]), .ok (.bit1H, [0x92]), .ok (.bit1L, [0x92]), .ok (.bit1AtHl, [0x92]), .ok (.bit1A, [0x92])] := rfl
theorem test_decode_CB5 : ([0x50, 0x51, 0x52, 0x53, 0x54, 0x55, 0x56, 0x57, 0x58, 0x59, 0x5A, 0x5B, 0x5C, 0x5D, 0x5E, 0x5F] : List Byte).map (fun op => decode [0xCB, op, 0x92]) =
    [.ok (.bit2B, [0x92]), .ok (.bit2C, [0x92]), .ok (.bit2D, [0x92]), .ok (.bit2E, [0x92]), .ok (.bit2H, [0x92]), .ok (.bit2L, [0x92]), .ok (.bit2AtHl, [0x92]), .ok (.bit2A, [0x92]), .ok (.bit3B, [0x92]), .ok (.bit3C, [0x92]), .ok (.bit3D, [0x92]), .ok (.bit3E, [0x92]), .ok (.bit3H, [0x92]), .ok (.bit3L, [0x92]), .ok (.bit3AtHl, [0x92]), .ok (.bit3A, [0x92])] := rfl
theorem test_decode_CB6 : ([0x60, 0x61, 0x62, 0x63, 0x64, 0x65, 0x66, 0x67, 0x68, 0x69, 0x6A, 0x6B, 0x6C, 0x6D, 0x6E, 0x6F] : List Byte).map (fun op => decode [0xCB, op, 0x92]) =
    [.ok (.bit4B, [0x92]), .ok (.bit4C, [0x92]), .ok (.bit4D, [0x92]), .ok (.bit4E, [0x92]), .ok (.bit4H, [0x92]), .ok (.bit4L, [0x92]), .ok (.bit4AtHl, [0x92]), .ok (.bit4A, [0x92]), .ok (.bit5B, [0x92]), .ok (.bit5C, [0x92]), .ok (.bit5D, [0x92]), .ok (.bit5E, [0x92]), .ok (.bit5H, [0x92]), .ok (.bit5L, [0x92]), .ok (.bit5AtHl, [0x92]), .ok (.bit5A, [0x92])] := rfl
theorem test_decode_CB7 : ([0x70, 0x71, 0x72, 0x73, 0x74, 0x75, 0x76, 0x77, 0x78, 0x79, 0x7A, 0x7B, 0x7C, 0x7D, 0x7E, 0x7F] : List Byte).map (fun op => decode [0xCB, op, 0x92]) =
    [.ok (.bit6B, [0x92]), .ok (.bit6C, [0x92]), .ok (.bit6D, [0x92]), .ok (.bit6E, [0x92]), .ok (.bit6H, [0x92]), .ok (.bit6L, [0x92]), .ok (.bit6AtHl, [0x92]), .ok (.bit6A, [0x92]), .ok (.bit7B, [0x92]), .ok (.bit7C, [0x92]), .ok (.bit7D, [0x92]), .ok (.bit7E, [0x92]), .ok (.bit7H, [0x92]), .ok (.bit7L, [0x92]), .ok (.bit7AtHl, [0x92]), .ok (.bit7A, [0x92])] := rfl
theorem test_decode_CB8 : ([0x80, 0x81, 0x82, 0x83, 0x84, 0x85, 0x86, 0x87, 0x88, 0x89, 0x8A, 0x8B, 0x8C, 0x8D, 0x8E, 0x8F] : List Byte).map (fun op => decode [0xCB, op, 0x92]) =
    [.ok (.res0B, [0x92]), .ok (.res0C, [0x92]), .ok (.res0D, [0x92]), .ok (.res0E, [0x92]), .ok (.res0H, [0x92]), .ok (.res0L, [0x92]), .ok (.res0AtHl, [0x92]), .ok (.res0A, [0x92]), .ok (.res1B, [0x92]), .ok (.res1C, [0x92]), .ok (.res1D, [0x92]), .ok (.res1E, [0x92]), .ok (.res1H, [0x92]), .ok (.res1L, [0x92]), .ok (.res1AtHl, [0x92]), .ok (.res1A, [0x92])] := rfl
theorem test_decode_CB9 : ([0x90, 0x91, 0x92, 0x93, 0x94, 0x95, 0x96, 0x97, 0x98, 0x99, 0x9A, 0x9B, 0x9C, 0x9D, 0x9E, 0x9F] : List Byte).map (fun op => decode [0xCB, op, 0x92]) =
    [.ok (.res2B, [0x92]), .ok (.res2C, [0x92]), .ok (.res2D, [0x92]), .ok (.res2E, [0x92]), .ok (.res2H, [0x92]), .ok (.res2L, [0x92]), .ok (.res2AtHl, [0x92]), .ok (.res2A, [0x92]), .ok (.res3B, [0x92]), .ok (.res3C, [0x92]), .ok (.res3D, [0x92]), .ok (.res3E, [0x92]), .ok (.res3H, [0x92]), .ok (.res3L, [0x92]), .ok (.res3AtHl, [0x92]), .ok (.res3A, [0x92])] := rfl
theorem test_decode_CBA : ([0xA0, 0xA1, 0xA2, 0xA3, 0xA4, 0xA5, 0xA6, 0xA7, 0xA8, 0xA9, 0xAA, 0xAB, 0xAC, 0xAD, 0xAE, 0xAF] : List Byte).map (fun op => decode [0xCB, op, 0x92]) =
    [.ok (.res4B, [0x92]), .ok (.res4C, [0x92]), .ok (.res4D, [0x92]), .ok (.res4E, [0x92]), .ok (.res4H, [0x92]), .ok (.res4L, [0x92]), .ok (.res4AtHl, [0x92]), .ok (.res4A, [0x92]), .ok (.res5B, [0x92]), .ok (.res5C, [0x92]), .ok (.res5D, [0x92]), .ok (.res5E, [0x92]), .ok (.res5H, [0x92]), .ok (.res5L, [0x92]), .ok (.res5AtHl, [0x92]), .ok (.res5A, [0x92])] := rfl
theorem test_decode_CBB : ([0xB0, 0xB1, 0xB2, 0xB3, 0xB4, 0xB5, 0xB6, 0xB7, 0xB8, 0xB9, 0xBA, 0xBB, 0xBC, 0xBD, 0xBE, 0xBF] : List Byte).map (fun op => decode [0xCB, op, 0x92]) =
    [.ok (.res6B, [0x92]), .ok (.res6C, [0x92]), .ok (.res6D, [0x92]), .ok (.res6E, [0x92]), .ok (.res6H, [0x92]), .ok (.res6L, [0x92]), .ok (.res6AtHl, [0x92]), .ok (.res6A, [0x92]), .ok (.res7B, [0x92]), .ok (.res7C, [0x92]), .ok (.res7D, [0x92]), .ok (.res7E, [0x92]), .ok (.res7H, [0x92]), .ok (.res7L, [0x92]), .ok (.res7AtHl, [0x92]), .ok (.res7A, [0x92])] := rfl
theorem test_decode_CBC : ([0xC0, 0xC1, 0xC2, 0xC3, 0xC4, 0xC5, 0xC6, 0xC7, 0xC8, 0xC9, 0xCA, 0xCB, 0xCC, 0xCD, 0xCE, 0xCF] : List Byte).map (fun op => decode [0xCB, op, 0x92]) =
    [.ok (.set0B, [0x92]), .ok (.set0C, [0x92]), .ok (.set0D, [0x92]), .ok (.set0E, [0x92]), .ok (.set0H, [0x92]), .ok (.set0L, [0x92]), .ok (.set0AtHl, [0x92]), .ok (.set0A, [0x92]), .ok (.set1B, [0x92]), .ok (.set1C, [0x92]), .ok (.set1D, [0x92]), .ok (.set1E, [0x92]), .ok (.set1H, [0x92]), .ok (.set1L, [0x92]), .ok (.set1AtHl, [0x92]), .ok (.set1A, [0x92])] := rfl
theorem test_decode_CBD : ([0xD0, 0xD1, 0xD2, 0xD3, 0xD4, 0xD5, 0xD6, 0xD7, 0xD8, 0xD9, 0xDA, 0xDB, 0xDC, 0xDD, 0xDE, 0xDF] : List Byte).map (fun op => decode [0xCB, op, 0x92]) =
    [.ok (.set2B, [0x92]), .ok (.set2C, [0x92]), .ok (.set2D, [0x92]), .ok (.set2E, [0x92]), .ok (.set2H, [0x92]), .ok (.set2L, [0x92]), .ok (.set2AtHl, [0x92]), .ok (.set2A, [0x92]), .ok (.set3B, [0x92]), .ok (.set3C, [0x92]), .ok (.set3D, [0x92]), .ok (.set3E, [0x92]), .ok (.set3H, [0x92]), .ok (.set3L, [0x92]), .ok (.set3AtHl, [0x92]), .ok (.set3A, [0x92])] := rfl
theorem test_decode_CBE : ([0xE0, 0xE1, 0xE2, 0xE3, 0xE4, 0xE5, 0xE6, 0xE7, 0xE8, 0xE9, 0xEA, 0xEB, 0xEC, 0xED, 0xEE, 0xEF] : List Byte).map (fun op => decode [0xCB, op, 0x92]) =
    [.ok (.set4B, [0x92]), .ok (.set4C, [0x92]), .ok (.set4D, [0x92]), .ok (.set4E, [0x92]), .ok (.set4H, [0x92]), .ok (.set4L, [0x92]), .ok (.set4AtHl, [0x92]), .ok (.set4A, [0x92]), .ok (.set5B, [0x92]), .ok (.set5C, [0x92]), .ok (.set5D, [0x92]), .ok (.set5E, [0x92]), .ok (.set5H, [0x92]), .ok (.set5L, [0x92]), .ok (.set5AtHl, [0x92]), .ok (.set5A, [0x92])] := rfl
theorem test_decode_CBF : ([0xF0, 0xF1, 0xF2, 0xF3, 0xF4, 0xF5, 0xF6, 0xF7, 0xF8, 0xF9, 0xFA, 0xFB, 0xFC, 0xFD, 0xFE, 0xFF] : List Byte).map (fun op => decode [0xCB, op, 0x92]) =
    [.ok (.set6B, [0x92]), .ok (.set6C, [0x92]), .ok (.set6D, [0x92]), .ok (.set6E, [0x92]), .ok (.set6H, [0x92]), .ok (.set6L, [0x92]), .ok (.set6AtHl, [0x92]), .ok (.set6A, [0x92]), .ok (.set7B, [0x92]), .ok (.set7C, [0x92]), .ok (.set7D, [0x92]), .ok (.set7E, [0x92]), .ok (.set7H, [0x92]), .ok (.set7L, [0x92]), .ok (.set7AtHl, [0x92]), .ok (.set7A, [0x92])] := rfl

/-- R112: an offset byte above 0x7F is negative. -/
theorem test_decode_negative : decode [0x20, 0xFC] = .ok (.jrNzE (-4), []) := rfl

/-- R120: a missing operand byte is named. -/
theorem test_decode_missing : decode [0xC3, 0x50] = .error (.missingByte 2) ∧ decode [] = .error (.missingByte 0) := ⟨rfl, rfl⟩

/-- The table's words: a primary opcode, an extended one as byte 0 first, and with byte 0 in the low bits (log 6). -/
theorem test_decodeTableWord : decodeTableWord 8 0x78 = some .ldAB ∧ decodeTableWord 16 0xCB37 = some .swapA ∧
    decodeTableWord 16 0x37CB = some .swapA ∧ decodeTableWord 24 0x1234C3 = some (.jpNn 0x1234) := ⟨rfl, rfl, rfl, rfl⟩

/-! ## Single steps -/

/-- A state with a program at pc. -/
def start (pc : Word) (bytes : List Byte) (s : State) : State := placeAtPc bytes { s with pc := pc }

/-- A state with one byte of memory written. -/
def poke (a : Word) (v : Byte) (s : State) : State := s.write a v

/-- The state after one step in ClosedMemory. -/
def after (s : State) : State := (execute .closedMemory s).stateAfter s

/-- The cycle count of the step, 0 where it faults. -/
def count (s : State) : Nat :=
  match execute .closedMemory s with
  | .ok _ n => n
  | .fault _ => 0
  | .refused _ => 0

/-- The fault of the step, if it faults. -/
def faultOf (src : FetchSource) (s : State) : Option Fault :=
  match execute src s with
  | .ok _ _ => none
  | .fault r => some r
  | .refused _ => none

/-- The power-on state. -/
abbrev zero : State := State.reset

/-- R149: NOP at 0x0150. -/
theorem test_nop : let s := start 0x0150 [0x00] zero
    let t := after s
    t.pc = 0x0151 ∧ count s = 4 := by decide
/-- R149: NOP after EI is the instruction at whose start IME becomes 1. -/
theorem test_nop_applies_edge : let s := start 0x0150 [0x00] { zero with pending := .pendingEnable }
    let t := after s
    t.ime = true ∧ t.pending = .idle := by decide
/-- R150: EI schedules the edge and leaves IME. -/
theorem test_ei : let s := start 0x0150 [0xFB] zero
    let t := after s
    t.ime = false ∧ t.pending = .pendingEnable ∧ t.pc = 0x0151 ∧ count s = 4 := by decide
/-- R151: DI leaves IME. -/
theorem test_di : let s := start 0x0150 [0xF3] { zero with ime := true }
    let t := after s
    t.ime = true ∧ t.pending = .pendingDisable ∧ count s = 4 := by decide
/-- R150: EI followed by DI, the step of DI. -/
theorem test_di_after_ei : let s := start 0x0150 [0xF3] { zero with pending := .pendingEnable }
    let t := after s
    t.ime = true ∧ t.pending = .pendingDisable := by decide
/-- R229: a DI immediately before RETI. -/
theorem test_reti_after_di : let s := start 0x0150 [0xD9] (poke 0xFFFC 0x40 { zero with pending := .pendingDisable, sp := 0xFFFC })
    let t := after s
    t.ime = true ∧ t.pending = .idle ∧ t.pc = 0x0040 ∧ t.sp = 0xFFFE ∧ count s = 16 := by decide
/-- R170: LD A,B. -/
theorem test_ld_r_r : let s := start 0x0150 [0x78] { zero with b := 0x12 }
    let t := after s
    t.a = 0x12 ∧ t.b = 0x12 ∧ t.f = 0x00 ∧ t.pc = 0x0151 ∧ count s = 4 := by decide
/-- R171: LD A,n. -/
theorem test_ld_r_n : let s := start 0x0150 [0x3E, 0x42] zero
    let t := after s
    t.a = 0x42 ∧ t.pc = 0x0152 ∧ count s = 8 := by decide
/-- R172: LD A,(HL). -/
theorem test_ld_r_hl : let s := start 0x0150 [0x7E] (poke 0xC000 0x99 { zero with h := 0xC0 })
    let t := after s
    t.a = 0x99 ∧ count s = 8 := by decide
/-- R172: LD H,(HL) reads with the old HL. -/
theorem test_ld_h_hl : let s := start 0x0150 [0x66] (poke 0xC005 0x77 { zero with h := 0xC0, l := 0x05 })
    let t := after s
    t.h = 0x77 ∧ t.l = 0x05 := by decide
/-- R173: LD (HL),A. -/
theorem test_ld_hl_r : let s := start 0x0150 [0x77] { zero with h := 0xC0, a := 0x5A }
    let t := after s
    t.read 0xC000 = 0x5A ∧ count s = 8 := by decide
/-- R173: LD (HL),H stores the high byte of the address. -/
theorem test_ld_hl_h : let s := start 0x0150 [0x74] { zero with h := 0xC0, l := 0x12 }
    let t := after s
    t.read 0xC012 = 0xC0 := by decide
/-- R174: LD (HL),n. -/
theorem test_ld_hl_n : let s := start 0x0150 [0x36, 0x7F] { zero with h := 0xC1 }
    let t := after s
    t.pc = 0x0152 ∧ t.read 0xC100 = 0x7F ∧ count s = 12 := by decide
/-- R175: LD A,(BC). -/
theorem test_ld_a_bc : let s := start 0x0150 [0x0A] (poke 0x1234 0x01 { zero with b := 0x12, c := 0x34 })
    let t := after s
    t.a = 0x01 ∧ count s = 8 := by decide
/-- R176: LD A,(DE). -/
theorem test_ld_a_de : let s := start 0x0150 [0x1A] (poke 0xC050 0xEE { zero with d := 0xC0, e := 0x50 })
    let t := after s
    t.a = 0xEE ∧ count s = 8 := by decide
/-- R177: LD (BC),A. -/
theorem test_ld_bc_a : let s := start 0x0150 [0x02] { zero with b := 0xC0, c := 0x01, a := 0x3C }
    let t := after s
    t.read 0xC001 = 0x3C ∧ count s = 8 := by decide
/-- R178: LD (DE),A with A = 0. -/
theorem test_ld_de_a : let s := start 0x0150 [0x12] (poke 0xD000 0x55 { zero with d := 0xD0 })
    let t := after s
    t.f = 0x00 ∧ t.read 0xD000 = 0x00 ∧ count s = 8 := by decide
/-- R179: LD A,(nn). -/
theorem test_ld_a_nn : let s := start 0x0150 [0xFA, 0x23, 0xC1] (poke 0xC123 0x77 zero)
    let t := after s
    t.a = 0x77 ∧ t.pc = 0x0153 ∧ count s = 16 := by decide
/-- R180: LD (nn),A. -/
theorem test_ld_nn_a : let s := start 0x0150 [0xEA, 0x00, 0xC0] { zero with a := 0x10 }
    let t := after s
    t.pc = 0x0153 ∧ t.read 0xC000 = 0x10 ∧ count s = 16 := by decide
/-- R181: LDH A,(n). -/
theorem test_ldh_a_n : let s := start 0x0150 [0xF0, 0x44] (poke 0xFF44 0x90 zero)
    let t := after s
    t.a = 0x90 ∧ t.pc = 0x0152 ∧ count s = 12 := by decide
/-- R182: LDH (n),A. -/
theorem test_ldh_n_a : let s := start 0x0150 [0xE0, 0x80] { zero with a := 0x01 }
    let t := after s
    t.read 0xFF80 = 0x01 ∧ count s = 12 := by decide
/-- R183: LDH A,(C). -/
theorem test_ldh_a_c : let s := start 0x0150 [0xF2] (poke 0xFF80 0xAB { zero with c := 0x80 })
    let t := after s
    t.a = 0xAB ∧ t.pc = 0x0151 ∧ count s = 8 := by decide
/-- R184: LDH (C),A. -/
theorem test_ldh_c_a : let s := start 0x0150 [0xE2] { zero with c := 0x81, a := 0x22 }
    let t := after s
    t.read 0xFF81 = 0x22 ∧ count s = 8 := by decide
/-- R185: LD A,(HL+). -/
theorem test_ld_a_hli : let s := start 0x0150 [0x2A] (poke 0xC000 0x05 { zero with h := 0xC0 })
    let t := after s
    t.a = 0x05 ∧ t.h = 0xC0 ∧ t.l = 0x01 ∧ count s = 8 := by decide
/-- R185: HL = 0xFFFF leaves 0x0000. -/
theorem test_ld_a_hli_wraps : let s := start 0x0150 [0x2A] (poke 0xFFFF 0x07 { zero with h := 0xFF, l := 0xFF })
    let t := after s
    t.a = 0x07 ∧ t.h = 0x00 ∧ t.l = 0x00 := by decide
/-- R186: LD A,(HL-). -/
theorem test_ld_a_hld : let s := start 0x0150 [0x3A] (poke 0xC010 0x66 { zero with h := 0xC0, l := 0x10 })
    let t := after s
    t.a = 0x66 ∧ t.h = 0xC0 ∧ t.l = 0x0F ∧ count s = 8 := by decide
/-- R187: LD (HL+),A. -/
theorem test_ld_hli_a : let s := start 0x0150 [0x22] { zero with h := 0xC0, a := 0x11 }
    let t := after s
    t.l = 0x01 ∧ t.read 0xC000 = 0x11 ∧ count s = 8 := by decide
/-- R188: HL = 0x0000 writes 0x0000 and leaves 0xFFFF. -/
theorem test_ld_hld_a_wraps : let s := start 0x0150 [0x32] { zero with a := 0x5A }
    let t := after s
    t.h = 0xFF ∧ t.l = 0xFF ∧ t.read 0x0000 = 0x5A ∧ count s = 8 := by decide
/-- R189: LD HL,nn, low byte first. -/
theorem test_ld_rr_nn : let s := start 0x0150 [0x21, 0x34, 0x12] zero
    let t := after s
    t.h = 0x12 ∧ t.l = 0x34 ∧ t.pc = 0x0153 ∧ count s = 12 := by decide
/-- R189: LD SP,nn. -/
theorem test_ld_sp_nn : let s := start 0x0150 [0x31, 0xFE, 0xDF] zero
    let t := after s
    t.sp = 0xDFFE ∧ count s = 12 := by decide
/-- R190: the source's example. -/
theorem test_ld_nn_sp : let s := start 0x0150 [0x08, 0x01, 0x20] { zero with sp := 0xDFF0 }
    let t := after s
    t.pc = 0x0153 ∧ t.read 0x2001 = 0xF0 ∧ t.read 0x2002 = 0xDF ∧ count s = 20 := by decide
/-- R190: nn = 0xFFFF. -/
theorem test_ld_nn_sp_wraps : let s := start 0x0150 [0x08, 0xFF, 0xFF] { zero with sp := 0xDFF0 }
    let t := after s
    t.read 0xFFFF = 0xF0 ∧ t.read 0x0000 = 0xDF := by decide
/-- R191: LD SP,HL. -/
theorem test_ld_sp_hl : let s := start 0x0150 [0xF9] { zero with h := 0xD0 }
    let t := after s
    t.sp = 0xD000 ∧ count s = 8 := by decide
/-- R192: LD HL,SP+2. -/
theorem test_ld_hl_sp_e : let s := start 0x0150 [0xF8, 0x02] { zero with sp := 0xFFF8 }
    let t := after s
    t.h = 0xFF ∧ t.l = 0xFA ∧ t.f = 0x00 ∧ t.pc = 0x0152 ∧ count s = 12 := by decide
/-- R192: sp = 0x00FF, n = 0xFF. -/
theorem test_ld_hl_sp_e_negative : let s := start 0x0150 [0xF8, 0xFF] { zero with sp := 0x00FF }
    let t := after s
    t.h = 0x00 ∧ t.l = 0xFE ∧ t.f = 0x30 ∧ t.sp = 0x00FF := by decide
/-- R220: JP nn. -/
theorem test_jp_nn : let s := start 0x0100 [0xC3, 0x50, 0x01] zero
    let t := after s
    t.pc = 0x0150 ∧ count s = 16 := by decide
/-- R221: JP Z,nn with Z = 1. -/
theorem test_jp_cc_taken : let s := start 0x0150 [0xCA, 0x00, 0x20] { zero with f := 0x80 }
    let t := after s
    t.pc = 0x2000 ∧ count s = 16 := by decide
/-- R221: JP Z,nn with Z = 0. -/
theorem test_jp_cc_not_taken : let s := start 0x0150 [0xCA, 0x00, 0x20] zero
    let t := after s
    t.pc = 0x0153 ∧ count s = 12 := by decide
/-- R222: JP HL. -/
theorem test_jp_hl : let s := start 0x0150 [0xE9] { zero with h := 0x40 }
    let t := after s
    t.pc = 0x4000 ∧ count s = 4 := by decide
/-- R223: offset 0xFE at 0x0100. -/
theorem test_jr_self : let s := start 0x0100 [0x18, 0xFE] zero
    let t := after s
    t.pc = 0x0100 ∧ count s = 12 := by decide
/-- R223: pc = 0xFFF0, e = 0x7F. -/
theorem test_jr_wraps : let s := start 0xFFF0 [0x18, 0x7F] zero
    let t := after s
    t.pc = 0x0071 := by decide
/-- R224: JR NZ with Z = 0. -/
theorem test_jr_cc_taken : let s := start 0x0210 [0x20, 0xFC] zero
    let t := after s
    t.pc = 0x020E ∧ count s = 12 := by decide
/-- R224: JR NZ with Z = 1. -/
theorem test_jr_cc_not_taken : let s := start 0x0210 [0x20, 0xFC] { zero with f := 0x80 }
    let t := after s
    t.pc = 0x0212 ∧ count s = 8 := by decide
/-- R225: CALL nn. -/
theorem test_call : let s := start 0x0150 [0xCD, 0x00, 0x02] zero
    let t := after s
    t.pc = 0x0200 ∧ t.sp = 0xFFFC ∧ t.read 0xFFFC = 0x53 ∧ t.read 0xFFFD = 0x01 ∧ count s = 24 := by decide
/-- R225: sp = 0x0001 pushes to 0x0000 and 0xFFFF. -/
theorem test_call_sp_wraps : let s := start 0x0150 [0xCD, 0x00, 0x02] { zero with sp := 0x0001 }
    let t := after s
    t.sp = 0xFFFF ∧ t.read 0x0000 = 0x01 ∧ t.read 0xFFFF = 0x53 := by decide
/-- R226: CALL C,nn with C = 1. -/
theorem test_call_cc_taken : let s := start 0x0300 [0xDC, 0x34, 0x12] { zero with f := 0x10, sp := 0xD000 }
    let t := after s
    t.pc = 0x1234 ∧ t.sp = 0xCFFE ∧ t.read 0xCFFE = 0x03 ∧ t.read 0xCFFF = 0x03 ∧ count s = 24 := by decide
/-- R226: CALL C,nn with C = 0. -/
theorem test_call_cc_not_taken : let s := start 0x0300 [0xDC, 0x34, 0x12] { zero with sp := 0xD000 }
    let t := after s
    t.pc = 0x0303 ∧ t.sp = 0xD000 ∧ t.read 0xCFFE = 0x00 ∧ count s = 12 := by decide
/-- R227: RET. -/
theorem test_ret : let s := start 0x0150 [0xC9] (poke 0xFFFD 0x01 (poke 0xFFFC 0x53 { zero with sp := 0xFFFC }))
    let t := after s
    t.pc = 0x0153 ∧ t.sp = 0xFFFE ∧ count s = 16 := by decide
/-- R227: sp = 0xFFFF reads 0xFFFF and 0x0000. -/
theorem test_ret_sp_wraps : let s := start 0x0150 [0xC9] (poke 0x0000 0x12 (poke 0xFFFF 0x34 { zero with sp := 0xFFFF }))
    let t := after s
    t.pc = 0x1234 ∧ t.sp = 0x0001 := by decide
/-- R228: RET NZ with Z = 0. -/
theorem test_ret_cc_taken : let s := start 0x0150 [0xC0] (poke 0xFFFD 0x01 (poke 0xFFFC 0x53 { zero with sp := 0xFFFC }))
    let t := after s
    t.pc = 0x0153 ∧ t.sp = 0xFFFE ∧ count s = 20 := by decide
/-- R228: RET NZ with Z = 1. -/
theorem test_ret_cc_not_taken : let s := start 0x0150 [0xC0] { zero with f := 0x80, sp := 0xFFFC }
    let t := after s
    t.pc = 0x0151 ∧ t.sp = 0xFFFC ∧ count s = 8 := by decide
/-- R229: RETI. -/
theorem test_reti : let s := start 0x0150 [0xD9] (poke 0xFFFC 0x40 { zero with sp := 0xFFFC })
    let t := after s
    t.pc = 0x0040 ∧ t.sp = 0xFFFE ∧ t.ime = true ∧ count s = 16 := by decide
/-- R230: RST 28h at 0x0200. -/
theorem test_rst : let s := start 0x0200 [0xEF] zero
    let t := after s
    t.pc = 0x0028 ∧ t.sp = 0xFFFC ∧ t.read 0xFFFC = 0x01 ∧ t.read 0xFFFD = 0x02 ∧ count s = 16 := by decide
/-- R252: ADD A,B. -/
theorem test_add_r : let s := start 0x0150 [0x80] { zero with a := 0x3A, b := 0xC6 }
    let t := after s
    t.a = 0x00 ∧ t.f = 0xB0 ∧ count s = 4 := by decide
/-- R253: ADD A,(HL). -/
theorem test_add_hl : let s := start 0x0150 [0x86] (poke 0xC000 0x12 { zero with a := 0x3C, h := 0xC0 })
    let t := after s
    t.a = 0x4E ∧ t.f = 0x00 ∧ count s = 8 := by decide
/-- R254: ADD A,n. -/
theorem test_add_n : let s := start 0x0150 [0xC6, 0x01] { zero with a := 0x0F }
    let t := after s
    t.a = 0x10 ∧ t.f = 0x20 ∧ t.pc = 0x0152 ∧ count s = 8 := by decide
/-- R255: ADC A,E. -/
theorem test_adc_r : let s := start 0x0150 [0x8B] { zero with a := 0xE1, e := 0x0F, f := 0x10 }
    let t := after s
    t.a = 0xF1 ∧ t.f = 0x20 ∧ count s = 4 := by decide
/-- R256: ADC A,(HL). -/
theorem test_adc_hl : let s := start 0x0150 [0x8E] (poke 0xC000 0x1E { zero with a := 0xE1, f := 0x10, h := 0xC0 })
    let t := after s
    t.a = 0x00 ∧ t.f = 0xB0 ∧ count s = 8 := by decide
/-- R257: ADC A,n. -/
theorem test_adc_n : let s := start 0x0150 [0xCE, 0x3B] { zero with a := 0xE1, f := 0x10 }
    let t := after s
    t.a = 0x1D ∧ t.f = 0x10 ∧ count s = 8 := by decide
/-- R258: SUB A,E. -/
theorem test_sub_r : let s := start 0x0150 [0x93] { zero with a := 0x3E, e := 0x3E }
    let t := after s
    t.a = 0x00 ∧ t.f = 0xC0 ∧ count s = 4 := by decide
/-- R259: SUB A,(HL). -/
theorem test_sub_hl : let s := start 0x0150 [0x96] (poke 0xC000 0x40 { zero with a := 0x3E, h := 0xC0 })
    let t := after s
    t.a = 0xFE ∧ t.f = 0x50 ∧ count s = 8 := by decide
/-- R260: SUB A,n. -/
theorem test_sub_n : let s := start 0x0150 [0xD6, 0x0F] { zero with a := 0x3E }
    let t := after s
    t.a = 0x2F ∧ t.f = 0x60 ∧ count s = 8 := by decide
/-- R261: the source's example. -/
theorem test_sbc_r : let s := start 0x0150 [0x98] { zero with a := 0x01, b := 0xFF, f := 0x10 }
    let t := after s
    t.a = 0x01 ∧ t.f = 0x70 ∧ count s = 4 := by decide
/-- R261: SBC A,A with C = 1. -/
theorem test_sbc_a_a : let s := start 0x0150 [0x9F] { zero with a := 0x5A, f := 0x10 }
    let t := after s
    t.a = 0xFF ∧ t.f = 0x70 := by decide
/-- R262: SBC A,(HL). -/
theorem test_sbc_hl : let s := start 0x0150 [0x9E] (poke 0xC000 0x4F { zero with a := 0x3B, f := 0x10, h := 0xC0 })
    let t := after s
    t.a = 0xEB ∧ t.f = 0x70 ∧ count s = 8 := by decide
/-- R263: SBC A,n. -/
theorem test_sbc_n : let s := start 0x0150 [0xDE, 0x2A] { zero with a := 0x3B, f := 0x10 }
    let t := after s
    t.a = 0x10 ∧ t.f = 0x40 ∧ count s = 8 := by decide
/-- R264: CP A,B. -/
theorem test_cp_r : let s := start 0x0150 [0xB8] { zero with a := 0x3C, b := 0x2F }
    let t := after s
    t.a = 0x3C ∧ t.f = 0x60 ∧ count s = 4 := by decide
/-- R265: CP A,(HL). -/
theorem test_cp_hl : let s := start 0x0150 [0xBE] (poke 0xC000 0x40 { zero with a := 0x3C, h := 0xC0 })
    let t := after s
    t.a = 0x3C ∧ t.f = 0x50 ∧ count s = 8 := by decide
/-- R266: CP A,n. -/
theorem test_cp_n : let s := start 0x0150 [0xFE, 0x3C] { zero with a := 0x3C }
    let t := after s
    t.a = 0x3C ∧ t.f = 0xC0 ∧ count s = 8 := by decide
/-- R267: INC A from 0xFF, C kept. -/
theorem test_inc_r : let s := start 0x0150 [0x3C] { zero with a := 0xFF }
    let t := after s
    t.a = 0x00 ∧ t.f = 0xA0 ∧ count s = 4 := by decide
/-- R267: INC L from 0xFF does not carry into H. -/
theorem test_inc_l : let s := start 0x0150 [0x2C] { zero with h := 0xC0, l := 0xFF, f := 0x10 }
    let t := after s
    t.h = 0xC0 ∧ t.l = 0x00 ∧ t.f = 0xB0 := by decide
/-- R268: INC (HL). -/
theorem test_inc_hl : let s := start 0x0150 [0x34] (poke 0xC000 0x50 { zero with h := 0xC0 })
    let t := after s
    t.f = 0x00 ∧ t.read 0xC000 = 0x51 ∧ count s = 12 := by decide
/-- R269: DEC L, C kept. -/
theorem test_dec_r : let s := start 0x0150 [0x2D] { zero with l := 0x01, f := 0x10 }
    let t := after s
    t.l = 0x00 ∧ t.f = 0xD0 ∧ count s = 4 := by decide
/-- R270: DEC (HL). -/
theorem test_dec_hl : let s := start 0x0150 [0x35] { zero with h := 0xC0 }
    let t := after s
    t.f = 0x60 ∧ t.read 0xC000 = 0xFF ∧ count s = 12 := by decide
/-- R271: after 0x45 + 0x38. -/
theorem test_daa_add : let s := start 0x0150 [0x27] { zero with a := 0x7D }
    let t := after s
    t.a = 0x83 ∧ t.f = 0x00 ∧ count s = 4 := by decide
/-- R271: A = 0x9A, N = H = C = 0. -/
theorem test_daa_9a : let s := start 0x0150 [0x27] { zero with a := 0x9A }
    let t := after s
    t.a = 0x00 ∧ t.f = 0x90 := by decide
/-- R272: CPL. -/
theorem test_cpl : let s := start 0x0150 [0x2F] { zero with a := 0x35 }
    let t := after s
    t.a = 0xCA ∧ t.f = 0x60 ∧ count s = 4 := by decide
/-- R273: F = 0xE0. -/
theorem test_scf : let s := start 0x0150 [0x37] { zero with f := 0xE0 }
    let t := after s
    t.f = 0x90 ∧ count s = 4 := by decide
/-- R274: F = 0x70. -/
theorem test_ccf : let s := start 0x0150 [0x3F] { zero with f := 0x70 }
    let t := after s
    t.f = 0x00 ∧ count s = 4 := by decide
/-- R275: INC BC. -/
theorem test_inc_rr : let s := start 0x0150 [0x03] { zero with c := 0xFF }
    let t := after s
    t.b = 0x01 ∧ t.c = 0x00 ∧ t.f = 0x00 ∧ count s = 8 := by decide
/-- R275: INC SP wraps and sets no flag. -/
theorem test_inc_sp : let s := start 0x0150 [0x33] { zero with sp := 0xFFFF }
    let t := after s
    t.sp = 0x0000 ∧ t.f = 0x00 := by decide
/-- R276: DEC DE. -/
theorem test_dec_rr : let s := start 0x0150 [0x1B] { zero with d := 0x01 }
    let t := after s
    t.d = 0x00 ∧ t.e = 0xFF ∧ t.f = 0x00 ∧ count s = 8 := by decide
/-- R277: ADD HL,BC. -/
theorem test_add_hl_rr : let s := start 0x0150 [0x09] { zero with h := 0x8A, l := 0x23, b := 0x06, c := 0x05 }
    let t := after s
    t.h = 0x90 ∧ t.l = 0x28 ∧ t.f = 0x20 ∧ count s = 8 := by decide
/-- R277: ADD HL,HL. -/
theorem test_add_hl_hl : let s := start 0x0150 [0x29] { zero with h := 0x8A, l := 0x23, f := 0x80 }
    let t := after s
    t.h = 0x14 ∧ t.l = 0x46 ∧ t.f = 0xB0 := by decide
/-- R279: ADD SP,2. -/
theorem test_add_sp_e : let s := start 0x0150 [0xE8, 0x02] { zero with sp := 0xFFF8 }
    let t := after s
    t.sp = 0xFFFA ∧ t.f = 0x00 ∧ t.pc = 0x0152 ∧ count s = 16 := by decide
/-- R279: e = -1. -/
theorem test_add_sp_e_negative : let s := start 0x0150 [0xE8, 0xFF] { zero with sp := 0xFFFE }
    let t := after s
    t.sp = 0xFFFD ∧ t.f = 0x30 := by decide
/-- R301: AND A,L. -/
theorem test_and_r : let s := start 0x0150 [0xA5] { zero with a := 0x5A, l := 0x3F }
    let t := after s
    t.a = 0x1A ∧ t.f = 0x20 ∧ count s = 4 := by decide
/-- R302: AND A,(HL). -/
theorem test_and_hl : let s := start 0x0150 [0xA6] { zero with a := 0x5A, h := 0xC0 }
    let t := after s
    t.a = 0x00 ∧ t.f = 0xA0 ∧ count s = 8 := by decide
/-- R303: the source's example. -/
theorem test_and_n : let s := start 0x0150 [0xE6, 0x00] { zero with a := 0xFF }
    let t := after s
    t.a = 0x00 ∧ t.f = 0xA0 ∧ t.pc = 0x0152 ∧ count s = 8 := by decide
/-- R304: XOR A,A. -/
theorem test_xor_r : let s := start 0x0150 [0xAF] { zero with a := 0xFF }
    let t := after s
    t.a = 0x00 ∧ t.f = 0x80 ∧ count s = 4 := by decide
/-- R305: XOR A,(HL). -/
theorem test_xor_hl : let s := start 0x0150 [0xAE] (poke 0xC000 0x8A { zero with a := 0xFF, h := 0xC0 })
    let t := after s
    t.a = 0x75 ∧ t.f = 0x00 ∧ count s = 8 := by decide
/-- R306: XOR A,n. -/
theorem test_xor_n : let s := start 0x0150 [0xEE, 0x0F] { zero with a := 0xFF }
    let t := after s
    t.a = 0xF0 ∧ t.f = 0x00 ∧ count s = 8 := by decide
/-- R307: OR A,A. -/
theorem test_or_r : let s := start 0x0150 [0xB7] { zero with a := 0x5A, f := 0xF0 }
    let t := after s
    t.a = 0x5A ∧ t.f = 0x00 ∧ count s = 4 := by decide
/-- R308: OR A,(HL). -/
theorem test_or_hl : let s := start 0x0150 [0xB6] (poke 0xC000 0x0F { zero with a := 0x5A, h := 0xC0 })
    let t := after s
    t.a = 0x5F ∧ count s = 8 := by decide
/-- R309: OR A,n. -/
theorem test_or_n : let s := start 0x0150 [0xF6, 0x03] { zero with a := 0x5A }
    let t := after s
    t.a = 0x5B ∧ count s = 8 := by decide
/-- R311: RLCA. -/
theorem test_rlca : let s := start 0x0150 [0x07] { zero with a := 0x85 }
    let t := after s
    t.a = 0x0B ∧ t.f = 0x10 ∧ count s = 4 := by decide
/-- R311: A = 0x00 gives Z = 0 under the default. -/
theorem test_rlca_zero : let s := start 0x0150 [0x07] zero
    let t := after s
    t.a = 0x00 ∧ t.f = 0x00 := by decide
/-- R311: with ROTATE_A_Z = FromResult. -/
theorem test_rlca_from_result : let s := start 0x0150 [0x07] { zero with params := { fLowNibbleMask := false, rotateAZ := .fromResult } }
    let t := after s
    t.a = 0x00 ∧ t.f = 0x80 := by decide
/-- R312: RRCA. -/
theorem test_rrca : let s := start 0x0150 [0x0F] { zero with a := 0x3B }
    let t := after s
    t.a = 0x9D ∧ t.f = 0x10 ∧ count s = 4 := by decide
/-- R313: RLA. -/
theorem test_rla : let s := start 0x0150 [0x17] { zero with a := 0x95, f := 0x10 }
    let t := after s
    t.a = 0x2B ∧ t.f = 0x10 ∧ count s = 4 := by decide
/-- R314: RRA. -/
theorem test_rra : let s := start 0x0150 [0x1F] { zero with a := 0x81 }
    let t := after s
    t.a = 0x40 ∧ t.f = 0x10 ∧ count s = 4 := by decide
/-- R315: RLC B. -/
theorem test_rlc_r : let s := start 0x0150 [0xCB, 0x00] { zero with b := 0x85 }
    let t := after s
    t.b = 0x0B ∧ t.f = 0x10 ∧ t.pc = 0x0152 ∧ count s = 8 := by decide
/-- R316: RLC (HL). -/
theorem test_rlc_hl : let s := start 0x0150 [0xCB, 0x06] { zero with h := 0xC0 }
    let t := after s
    t.f = 0x80 ∧ count s = 16 := by decide
/-- R317: RRC C. -/
theorem test_rrc_r : let s := start 0x0150 [0xCB, 0x09] { zero with c := 0x01 }
    let t := after s
    t.c = 0x80 ∧ t.f = 0x10 ∧ count s = 8 := by decide
/-- R318: RRC (HL). -/
theorem test_rrc_hl : let s := start 0x0150 [0xCB, 0x0E] { zero with h := 0xC0 }
    let t := after s
    t.f = 0x80 ∧ count s = 16 := by decide
/-- R319: RL L. -/
theorem test_rl_r : let s := start 0x0150 [0xCB, 0x15] { zero with l := 0x80 }
    let t := after s
    t.l = 0x00 ∧ t.f = 0x90 ∧ count s = 8 := by decide
/-- R320: RL (HL). -/
theorem test_rl_hl : let s := start 0x0150 [0xCB, 0x16] (poke 0xC000 0x11 { zero with h := 0xC0 })
    let t := after s
    t.f = 0x00 ∧ t.read 0xC000 = 0x22 ∧ count s = 16 := by decide
/-- R321: RR A. -/
theorem test_rr_r : let s := start 0x0150 [0xCB, 0x1F] { zero with a := 0x01 }
    let t := after s
    t.a = 0x00 ∧ t.f = 0x90 ∧ count s = 8 := by decide
/-- R322: RR (HL). -/
theorem test_rr_hl : let s := start 0x0150 [0xCB, 0x1E] (poke 0xC000 0x8A { zero with h := 0xC0 })
    let t := after s
    t.f = 0x00 ∧ t.read 0xC000 = 0x45 ∧ count s = 16 := by decide
/-- R323: SLA D. -/
theorem test_sla_r : let s := start 0x0150 [0xCB, 0x22] { zero with d := 0x80 }
    let t := after s
    t.d = 0x00 ∧ t.f = 0x90 ∧ count s = 8 := by decide
/-- R324: SLA (HL). -/
theorem test_sla_hl : let s := start 0x0150 [0xCB, 0x26] (poke 0xC000 0xFF { zero with h := 0xC0 })
    let t := after s
    t.f = 0x10 ∧ t.read 0xC000 = 0xFE ∧ count s = 16 := by decide
/-- R325: SRA A. -/
theorem test_sra_r : let s := start 0x0150 [0xCB, 0x2F] { zero with a := 0x8A }
    let t := after s
    t.a = 0xC5 ∧ t.f = 0x00 ∧ count s = 8 := by decide
/-- R326: SRA (HL). -/
theorem test_sra_hl : let s := start 0x0150 [0xCB, 0x2E] (poke 0xC000 0x01 { zero with h := 0xC0 })
    let t := after s
    t.f = 0x90 ∧ t.read 0xC000 = 0x00 ∧ count s = 16 := by decide
/-- R327: SWAP A. -/
theorem test_swap_r : let s := start 0x0150 [0xCB, 0x37] { zero with a := 0xF0, f := 0x10 }
    let t := after s
    t.a = 0x0F ∧ t.f = 0x00 ∧ count s = 8 := by decide
/-- R328: SWAP (HL). -/
theorem test_swap_hl : let s := start 0x0150 [0xCB, 0x36] (poke 0xC000 0xF0 { zero with h := 0xC0 })
    let t := after s
    t.read 0xC000 = 0x0F ∧ count s = 16 := by decide
/-- R329: SRL A. -/
theorem test_srl_r : let s := start 0x0150 [0xCB, 0x3F] { zero with a := 0x01 }
    let t := after s
    t.a = 0x00 ∧ t.f = 0x90 ∧ count s = 8 := by decide
/-- R330: SRL (HL). -/
theorem test_srl_hl : let s := start 0x0150 [0xCB, 0x3E] (poke 0xC000 0xFF { zero with h := 0xC0 })
    let t := after s
    t.f = 0x10 ∧ t.read 0xC000 = 0x7F ∧ count s = 16 := by decide
/-- R331: BIT 7,A. -/
theorem test_bit_r : let s := start 0x0150 [0xCB, 0x7F] { zero with a := 0x80, f := 0x10 }
    let t := after s
    t.a = 0x80 ∧ t.f = 0x30 ∧ count s = 8 := by decide
/-- R332: BIT 0,(HL). -/
theorem test_bit_hl : let s := start 0x0150 [0xCB, 0x46] (poke 0xC000 0xFE { zero with h := 0xC0 })
    let t := after s
    t.f = 0xA0 ∧ t.read 0xC000 = 0xFE ∧ count s = 12 := by decide
/-- R333: RES 0,A. -/
theorem test_res_r : let s := start 0x0150 [0xCB, 0x87] { zero with a := 0xFF, f := 0xF0 }
    let t := after s
    t.a = 0xFE ∧ t.f = 0xF0 ∧ count s = 8 := by decide
/-- R334: RES 7,(HL). -/
theorem test_res_hl : let s := start 0x0150 [0xCB, 0xBE] (poke 0xC000 0xFF { zero with h := 0xC0 })
    let t := after s
    t.read 0xC000 = 0x7F ∧ count s = 16 := by decide
/-- R335: SET 7,A. -/
theorem test_set_r : let s := start 0x0150 [0xCB, 0xFF] zero
    let t := after s
    t.a = 0x80 ∧ t.f = 0x00 ∧ count s = 8 := by decide
/-- R336: SET 3,(HL). -/
theorem test_set_hl : let s := start 0x0150 [0xCB, 0xDE] { zero with h := 0xC0 }
    let t := after s
    t.read 0xC000 = 0x08 ∧ count s = 16 := by decide
/-- R362: PUSH BC. -/
theorem test_push : let s := start 0x0150 [0xC5] { zero with b := 0x12, c := 0x34 }
    let t := after s
    t.sp = 0xFFFC ∧ t.read 0xFFFC = 0x34 ∧ t.read 0xFFFD = 0x12 ∧ count s = 16 := by decide
/-- R362: PUSH AF stores all eight bits of F. -/
theorem test_push_af : let s := start 0x0150 [0xF5] { zero with a := 0x3C, f := 0x5F }
    let t := after s
    t.read 0xFFFC = 0x5F ∧ t.read 0xFFFD = 0x3C := by decide
/-- R363: POP HL. -/
theorem test_pop : let s := start 0x0150 [0xE1] (poke 0xFFFD 0x12 (poke 0xFFFC 0x34 { zero with sp := 0xFFFC }))
    let t := after s
    t.h = 0x12 ∧ t.l = 0x34 ∧ t.sp = 0xFFFE ∧ count s = 12 := by decide
/-- R364: POP AF. -/
theorem test_pop_af : let s := start 0x0150 [0xF1] (poke 0xFFFD 0x3C (poke 0xFFFC 0x5F { zero with sp := 0xFFFC }))
    let t := after s
    t.a = 0x3C ∧ t.f = 0x5F ∧ t.sp = 0xFFFE ∧ count s = 12 := by decide
/-- R364: with F_LOW_NIBBLE_MASK = true. -/
theorem test_pop_af_masked : let s := start 0x0150 [0xF1] (poke 0xFFFD 0x3C (poke 0xFFFC 0x5F { zero with sp := 0xFFFC, params := { fLowNibbleMask := true, rotateAZ := .clear } }))
    let t := after s
    t.a = 0x3C ∧ t.f = 0x50 := by decide
/-- R37: an instruction at 0xFFFF of length 1 leaves pc = 0x0000. -/
theorem test_pc_wraps : let s := start 0xFFFF [0x00] zero
    let t := after s
    t.pc = 0x0000 := by decide

/-- R152: HALT faults with its opcode and address, and the state, the pending edge included, stays. -/
theorem test_halt : let s := start 0x0200 [0x76] { zero with pending := .pendingEnable }
    faultOf .closedMemory s = some (.unimplementedOpcode 0x76 0x0200) ∧ after s = s := by decide
/-- R153: STOP. -/
theorem test_stop : faultOf .closedMemory (start 0x0300 [0x10, 0x00] zero) = some (.unimplementedOpcode 0x10 0x0300) := by decide
/-- R154: an unassigned opcode. -/
theorem test_unassigned : faultOf .closedMemory (start 0x4000 [0xDD] zero) = some (.unimplementedOpcode 0xDD 0x4000) := by decide
/-- R381: the three examples. -/
theorem test_hostBuffer : faultOf (.hostBuffer [0xC3, 0x00] 0) zero = some (.addressingError 2) ∧ faultOf (.hostBuffer [0x00] 0) zero = none ∧
    faultOf (.hostBuffer [0xCB] 0) zero = some (.addressingError 1) := by decide
/-- R384, R141: a start index outside the buffer, on both sides. -/
theorem test_hostBuffer_start : faultOf (.hostBuffer [0x00] 1) zero = some (.addressingError 1) ∧
    faultOf (.hostBuffer [0x00] (-1)) zero = some (.addressingError (-1)) := by decide
/-- R43: a host write of IME leaves the pending edge. -/
theorem test_hostWrite : let s := ({ zero with pending := .pendingEnable } : State).hostWrite (.ime true)
    s.ime = true ∧ s.pending = .pendingEnable := by decide
/-- R45: power-on. -/
theorem test_reset : State.reset.sp = 0xFFFE ∧ State.reset.pc = 0x0000 ∧ State.reset.ime = false ∧ State.reset.pending = .idle := by decide
/-- The host's question: the word runs as the first instruction after reset. -/
theorem test_withFetchWord : step (State.reset.withFetchWord 8 0x3C) = exec .incA (State.reset.withFetchWord 8 0x3C) ∧
    step (State.reset.withFetchWord 16 0xCB37) = exec .swapA (State.reset.withFetchWord 16 0xCB37) := ⟨rfl, rfl⟩
/-- R416: the run ends in the state before the step that faults, with the counts before it. -/
theorem test_run : let r := runClosed 3 (start 0x0000 [0x3C, 0x76] zero)
    r.state.a = 1 ∧ r.state.pc = 1 ∧ r.cycles = 4 ∧ r.stop = .byFault (.unimplementedOpcode 0x76 0x0001) := by decide

/-! ## Witnesses: states and operands that meet the hypotheses of the obligations -/

/-- A program of one instruction at 0x0000. -/
abbrev nopState : State := start 0x0000 [0x00] zero
abbrev haltState : State := start 0x0000 [0x76] zero

theorem test_not_unimplemented : Instr.nop ∉ unimplementedRows.map Prod.fst ∧ Instr.popAf ∉ unimplementedRows.map Prod.fst ∧
    Instr.jpZNn 0x1234 ∉ unimplementedRows.map Prod.fst := by simp [unimplementedRows]
theorem test_unimplemented : (Instr.halt, (0x76 : Byte)) ∈ unimplementedRows := by simp [unimplementedRows]
theorem test_witness_StepRunsDecodedInstruction :
    decode [nopState.read nopState.pc, nopState.read (nopState.pc + 1), nopState.read (nopState.pc + 2)] = .ok (.nop, [0x00, 0x00]) ∧
      decode [haltState.read haltState.pc, haltState.read (haltState.pc + 1), haltState.read (haltState.pc + 2)] = .ok (.halt, [0x00, 0x00]) := ⟨rfl, rfl⟩
theorem test_witness_DecodeEncode : (Instr.jrE (-128)).WellFormed = true ∧ (Instr.addSpE 127).WellFormed = true ∧ Instr.nop.WellFormed = true := by decide
theorem test_witness_EncodeDecode : decode [0x18, 0xFE, 0x00] = .ok (.jrE (-2), [0x00]) := rfl
theorem test_witness_UnimplementedOpcodesFault : (Instr.halt, (0x76 : Byte)) ∈ unimplementedRows ∧ haltState.read haltState.pc = 0x76 :=
  ⟨test_unimplemented, by decide⟩
theorem test_witness_EveryOtherInstructionCompletes : Instr.nop ∉ unimplementedRows.map Prod.fst := test_not_unimplemented.1
theorem test_witness_OnlyUnimplementedOpcodesStop : haltState.read haltState.pc ∈ unimplementedOpcodes ∧ nopState.read nopState.pc ∉ unimplementedOpcodes := by decide
theorem test_witness_RunEndsBeforeFault : (runFrom [.closedMemory, .closedMemory] (start 0x0000 [0x00, 0x76] zero) 0).stop =
    .byFault (.unimplementedOpcode 0x76 0x0001) := by decide
theorem test_witness_PendingEdgeApplied :
    decodeFrom (fetchByte .closedMemory { nopState with pending := .pendingEnable }) = .ok .nop ∧
    decodeFrom (fetchByte .closedMemory { nopState with pending := .pendingDisable }) = .ok .nop ∧
    decodeFrom (fetchByte .closedMemory nopState) = .ok .nop ∧ Instr.nop ∉ unimplementedRows.map Prod.fst := ⟨rfl, rfl, rfl, test_not_unimplemented.1⟩
theorem test_witness_ImeWriters :
    (decodeFrom (fetchByte .closedMemory nopState) = .ok .nop ∧ (execute .closedMemory nopState = .ok (after nopState) 4)) ∧
    (decodeFrom (fetchByte (.hostBuffer [0xFB] 0) nopState) = .ok .ei ∧ ∃ t, execute (.hostBuffer [0xFB] 0) nopState = .ok t 4) ∧
    (decodeFrom (fetchByte (.hostBuffer [0xF3] 0) nopState) = .ok .di ∧ ∃ t, execute (.hostBuffer [0xF3] 0) nopState = .ok t 4) ∧
    (decodeFrom (fetchByte (.hostBuffer [0xD9] 0) nopState) = .ok .reti ∧ ∃ t, execute (.hostBuffer [0xD9] 0) nopState = .ok t 16) :=
  ⟨⟨rfl, rfl⟩, ⟨rfl, _, rfl⟩, ⟨rfl, _, rfl⟩, ⟨rfl, _, rfl⟩⟩
/-- One buffer for each clause: byte 0 missing on either side, byte 1 missing, byte 2 missing, all there. -/
theorem test_witness_HostBufferAddressingError :
    faultOf (.hostBuffer [] 0) zero = some (.addressingError 0) ∧ faultOf (.hostBuffer [0x3E] (-1)) zero = some (.addressingError (-1)) ∧
    faultOf (.hostBuffer [0x3E] 0) zero = some (.addressingError 1) ∧ faultOf (.hostBuffer [0x01, 0x02] 0) zero = some (.addressingError 2) ∧
    faultOf (.hostBuffer [0x01, 0x02, 0x03] 0) zero = none ∧
    opcodeLength (([] : List Byte).getD 0 0) = 1 ∧ opcodeLength 0x3E = 2 ∧ opcodeLength 0x01 = 3 := by decide
theorem test_witness_HostBufferMatchesMemory : ∀ k : Nat, k < opcodeLength (nopState.read nopState.pc) →
    bufferByte [0xFF, 0x00] (1 + k) = .ok (nopState.read (nopState.pc + BitVec.ofNat 16 k)) := by
  intro k hk
  have h : k = 0 := Nat.lt_one_iff.1 hk
  subst h
  rfl
theorem test_witness_Rotates : RotOp.rl ∈ ([.rlc, .rrc, .rl, .rr] : List RotOp) ∧ RotOp.swap ∈ ([.sla, .sra, .swap, .srl] : List RotOp) := by decide
theorem test_witness_ShiftsAndSwap : RotOp.sla ∈ ([.sla, .sra, .swap, .srl] : List RotOp) ∧ RotOp.srl ∈ ([.sla, .sra, .swap, .srl] : List RotOp) := by decide
/-- Each side of the conditional clauses of JumpAbsolute, JumpRelative, CallsAndRst, Returns and CycleCounts. -/
theorem test_witness_conditions : let s := { zero with f := 0x90 }
    (condition .nz zero = true ∧ condition .z zero = false ∧ condition .nc zero = true ∧ condition .c zero = false) ∧
    (condition .nz s = false ∧ condition .z s = true ∧ condition .nc s = false ∧ condition .c s = true) := by decide
theorem test_witness_MemoryCanonicalInvariant : memoryCanonical nopState ∧ step nopState = .next (after nopState) :=
  ⟨wf_load _ _ _ wf_nil, rfl⟩
theorem test_witness_LowNibbleKept : Instr.scf ≠ .popAf ∧ exec .scf zero = .next { zero with f := 0x10, pc := 0x0001 } := ⟨nofun, rfl⟩
theorem test_witness_MaskedFlagsInvariant : let s := { start 0x0000 [0xF1] zero with params := { fLowNibbleMask := true, rotateAZ := .clear } }
    maskedFlags s ∧ step s = .next (after s) := ⟨⟨rfl, rfl⟩, rfl⟩
theorem test_witness_MemoryFrame : exec (.ldAtNnSp 0xFFFF) zero = .next ((zero.write16 0xFFFF 0xFFFE).advance 3) ∧
    storedAddresses (.ldAtNnSp 0xFFFF) zero = [0xFFFF, 0x0000] ∧ storedAddresses .nop zero = [] := ⟨rfl, rfl, rfl⟩
theorem test_witness_FlagWriteClasses : exec .incB zero = .next { zero with b := 0x01, pc := 0x0001 } ∧ Flag.c ∉ flagWrites .incB ∧
    Flag.z ∉ flagWrites .scf ∧ Flag.n ∉ flagWrites .daa := ⟨rfl, by decide, by decide, by decide⟩
theorem test_witness_NextPc : exec .nop zero = .next { zero with pc := 0x0001 } ∧ pcWritten .nop zero = none ∧
    exec (.jpZNn 0x1234) { zero with f := 0x80 } = .next { zero with f := 0x80, pc := 0x1234 } ∧
    pcWritten (.jpZNn 0x1234) { zero with f := 0x80 } = some 0x1234 ∧ pcWritten (.jpZNn 0x1234) zero = none := ⟨rfl, rfl, rfl, rfl, rfl⟩
theorem test_witness_CycleCounts : Instr.jpZNn 0x1234 ∉ unimplementedRows.map Prod.fst ∧ conditionOf (.jpZNn 0x1234) = some .z ∧
    condition .z { zero with f := 0x80 } = true ∧ condition .z zero = false ∧ conditionOf .nop = none :=
  ⟨test_not_unimplemented.2.2, rfl, rfl, rfl, rfl⟩
theorem test_witness_ReadsOnlyItsBytes : (∀ a ∈ readAddresses .ldAAtHl zero, Memory.read [(1, 0x55)] a = zero.read a) ∧
    exec .ldAAtHl zero = .next { zero with pc := 0x0001 } :=
  ⟨fun a h => by rw [show readAddresses .ldAAtHl zero = [0x0000] from rfl] at h; rw [List.mem_singleton.mp h]; rfl, rfl⟩

end Sys2Proof.Tests
end

section
/-! The state (10_state.md): what every instruction leaves of F, of the interrupt state and of the memory's canonical form, and from
that the statements about the state, its invariants and the host's accesses. -/

namespace Sys2Proof.Machine

/-! ## How `exec` and `step` answer a next state -/

/-- A conditional meaning answers what its taken branch answers, or the state of the other branch. -/
theorem next_of_ite {taken : Prop} [Decidable taken] {r : Result} {t u : State}
    (h : (if taken then r else .next u) = .next t) : r = .next t ∨ u = t := by
  split at h
  · exact .inl h
  · exact .inr (Host.Outcome.next.inj h)

/-- None of the thirteen answers a next state (R143). -/
theorem exec_unimplemented_ne_next {i : Instr} (s t : State) (hi : i ∈ unimplementedRows.map Prod.fst) : exec i s ≠ .next t := by
  simp only [unimplementedRows, List.map, List.mem_cons, List.not_mem_nil, or_false] at hi
  rcases hi with rfl | rfl | rfl | rfl | rfl | rfl | rfl | rfl | rfl | rfl | rfl | rfl | rfl <;> exact nofun

/-- Where a step answers, the rule of some instruction answers, in the state in which rules run. -/
theorem step_next {s t : State} (h : step s = .next t) : ∃ i, exec i (beforeRule i s) = .next t := by
  obtain ⟨i, _, hstep⟩ := step_decoded s
  exact ⟨i, hstep.symm.trans h⟩

/-! ## F -/

/-- F[3:0] is what it was, and so is every flag but those listed (R34, R35). -/
def flagsKeptBut (fs : List Flag) (s t : State) : Prop :=
  lowNibble t.f = lowNibble s.f ∧ ∀ fl, fl ∉ fs → flagBit fl t.f = flagBit fl s.f

theorem flagsKeptBut_of_f_eq {fs : List Flag} {s t : State} (hf : t.f = s.f) : flagsKeptBut fs s t :=
  ⟨by rw [hf], fun _ _ => by rw [hf]⟩

/-- A write of the four flags, as the last thing before pc moves on, that gives each unlisted flag its old value. -/
theorem flagsKeptBut_setFlags {fs : List Flag} {s u : State} {z n h c : Bool} {k : Nat} (hu : u.f = s.f)
    (hz : .z ∉ fs → z = flagZ s.f) (hn : .n ∉ fs → n = flagN s.f) (hh : .h ∉ fs → h = flagH s.f)
    (hc : .c ∉ fs → c = flagC s.f) : flagsKeptBut fs s ((u.setFlags z n h c).advance k) := by
  refine ⟨by simp [hu], fun fl hfl => ?_⟩
  cases fl with
  | z => exact (flagZ_withFlags ..).trans (hz hfl)
  | n => exact (flagN_withFlags ..).trans (hn hfl)
  | h => exact (flagH_withFlags ..).trans (hh hfl)
  | c => exact (flagC_withFlags ..).trans (hc hfl)

/-- Every instruction but POP AF keeps F[3:0] and the flags outside its class. -/
theorem exec_flagsKeptBut {i : Instr} {s t : State} (hi : i ≠ .popAf) (h : exec i s = .next t) : flagsKeptBut (flagWrites i) s t := by
  obtain ⟨r, hr, ht⟩ := runsAs_of_next h
  cases hr
  case popAccumulatorFlags hpop _ => exact absurd hpop hi
  case raiseUnimplemented => cases ht
  case jumpIf | jumpRelativeIf | callIf | returnIf =>
    obtain ht | rfl := next_of_ite ht
    · cases ht
      exact flagsKeptBut_of_f_eq rfl
    · exact flagsKeptBut_of_f_eq rfl
  case popPair rr hrr _ =>
    cases ht
    exact flagsKeptBut_of_f_eq (setStackPair_f _ rr _ hrr)
  case aluA hclass =>
    cases ht
    rw [hclass.flags]
    exact flagsKeptBut_setFlags (by simp [apply_ite State.f]) (by simp) (by simp) (by simp) (by simp)
  case ldHlFromSp hclass | incOperand hclass | decOperand hclass | decimalAdjust hclass | complementA hclass | writeCarry hclass |
      addToHl hclass | addToSp hclass | rotateA hclass | rotateOperand hclass | testBit hclass =>
    cases ht
    rw [hclass.flags]
    exact flagsKeptBut_setFlags (by simp) (by simp) (by simp) (by simp) (by simp)
  all_goals
    cases ht
    exact flagsKeptBut_of_f_eq (by simp)

/-- POP AF gives F the popped byte, masked where the machine masks it (R364). -/
theorem exec_popAf_f {s t : State} (h : exec .popAf s = .next t) : t.f = poppedF s.params (s.read s.sp) := by
  obtain ⟨u, hu, -, hf, -⟩ := popAccumulatorFlags_spec s
  cases hu.symm.trans h
  exact hf

theorem lowNibble_poppedF {p : Params} (hp : p.fLowNibbleMask = true) (v : Byte) : lowNibble (poppedF p v) = 0 := by
  have hmask : ∀ v : Byte, lowNibble (v &&& 0xF0) = 0 := by decide
  rw [poppedF, if_pos hp, hmask]

/-! ## The interrupt state and the parameters -/

/-- Every instruction but EI, DI and RETI leaves IME and the pending edge as its rule finds them. -/
theorem exec_sameInterrupts {i : Instr} {s t : State} (hei : i ≠ .ei) (hdi : i ≠ .di) (hreti : i ≠ .reti) (h : exec i s = .next t) :
    sameInterrupts s t := by
  obtain ⟨r, hr, ht⟩ := runsAs_of_next h
  cases hr
  case schedule he _ =>
    rcases he with ⟨rfl, -⟩ | ⟨rfl, -⟩
    · exact absurd rfl hei
    · exact absurd rfl hdi
  case returnFromInterrupt hi _ => exact absurd hi hreti
  case raiseUnimplemented => cases ht
  case jumpIf | jumpRelativeIf | callIf | returnIf =>
    obtain ht | rfl := next_of_ite ht
    · cases ht
      exact ⟨rfl, rfl, rfl⟩
    · exact ⟨rfl, rfl, rfl⟩
  case aluA op _ _ _ =>
    cases ht
    by_cases hop : op = .cp <;> simp [sameInterrupts, hop]
  all_goals
    cases ht
    simp [sameInterrupts]

/-- IME and the pending edge after the rule of any instruction (R150, R151, R229). -/
theorem exec_interrupts {i : Instr} {s t : State} (h : exec i s = .next t) :
    t.ime = (if i = .reti then true else s.ime) ∧
      t.pending = (if i = .ei then .pendingEnable else if i = .di then .pendingDisable else s.pending) ∧
      t.params = s.params := by
  by_cases hei : i = .ei
  · subst hei
    cases h
    exact ⟨rfl, rfl, rfl⟩
  by_cases hdi : i = .di
  · subst hdi
    cases h
    exact ⟨rfl, rfl, rfl⟩
  by_cases hreti : i = .reti
  · subst hreti
    cases h
    exact ⟨rfl, rfl, rfl⟩
  rw [if_neg hreti, if_neg hei, if_neg hdi]
  exact exec_sameInterrupts hei hdi hreti h

/-! ## The memory -/

theorem wf_setOperand (s : State) (o : Operand8) (v : Byte) (h : s.mem.wf) : (s.setOperand o v).mem.wf := by
  cases o with
  | reg r => simpa only [State.setOperand, setReg8_mem] using h
  | atHl => exact wf_write _ _ _ h

/-- Every instruction keeps the canonical form. -/
theorem exec_wf {i : Instr} {s t : State} (hs : s.mem.wf) (h : exec i s = .next t) : t.mem.wf := by
  obtain ⟨r, hr, ht⟩ := runsAs_of_next h
  cases hr
  case raiseUnimplemented => cases ht
  case jumpIf | jumpRelativeIf | returnIf =>
    obtain ht | rfl := next_of_ite ht
    · cases ht
      exact hs
    · exact hs
  case callIf =>
    obtain ht | rfl := next_of_ite ht
    · cases ht
      exact wf_push16 _ _ hs
    · exact hs
  case callTo | pushPair =>
    cases ht
    exact wf_push16 _ _ hs
  case ldMem | ldHlMoveA =>
    cases ht
    exact wf_write _ _ _ hs
  case ldMemSp =>
    cases ht
    exact wf_write16 _ _ _ hs
  case incOperand | decOperand | rotateOperand | resetBit | setBit =>
    cases ht
    exact wf_setOperand _ _ _ hs
  case aluA =>
    cases ht
    simpa [apply_ite State.mem] using hs
  all_goals
    cases ht
    simpa using hs

/-! ## The host's writes (R43, R392) -/

/-- No host write reaches the pending edge or the parameters (R43). -/
theorem hostWrite_pending_params (s : State) (w : HostWrite) : (s.hostWrite w).pending = s.pending ∧ (s.hostWrite w).params = s.params := by
  cases w with
  | cell r v => cases r <;> exact ⟨rfl, rfl⟩
  | pc | sp | ime | memory => exact ⟨rfl, rfl⟩

/-- The host's read of a cell after its write of one. -/
theorem hostCell_hostWrite_cell (s : State) (r q : HostCell) (v : Byte) :
    (s.hostWrite (.cell r v)).hostCell q = if q = r then v else s.hostCell q := by
  cases r <;> cases q <;> rfl

/-- A write of a cell leaves pc, sp, IME and memory. -/
theorem hostWrite_cell_rest (s : State) (r : HostCell) (v : Byte) :
    let t := s.hostWrite (.cell r v)
    t.pc = s.pc ∧ t.sp = s.sp ∧ t.ime = s.ime ∧ t.mem = s.mem := by
  cases r <;> exact ⟨rfl, rfl, rfl, rfl⟩

/-- A write of memory changes one byte of it. -/
theorem hostWrite_memory_read (s : State) (x a : Word) (v : Byte) :
    (s.hostWrite (.memory x v)).read a = if a = x then v else s.read a := write_read s x a v

/-! ## The statements -/

/-- Settles O13: only RETI writes IME in its own rule, only EI and DI the pending edge, and the rule runs after the edge is applied. -/
theorem imeWriters : Obligations.ImeWriters := by
  intro src s t i n hdecode hexecute
  obtain ⟨hexec, -⟩ := ((execute_decoded hdecode).2 t n).1 hexecute
  have hi : i ∉ unimplementedRows.map Prod.fst := fun hi => exec_unimplemented_ne_next _ t hi hexec
  rw [beforeRule_other s hi] at hexec
  obtain ⟨hime, hpending, -⟩ := exec_interrupts hexec
  exact ⟨hime, hpending⟩

/-- Settles O53: what comes before the rule leaves the memory, and every rule keeps its form. -/
theorem memoryCanonicalInvariant : Obligations.MemoryCanonicalInvariant := by
  intro s t hs hstep
  obtain ⟨i, hexec⟩ := step_next hstep
  obtain ⟨hmem, -, -⟩ := beforeRule_same i s
  exact exec_wf (hmem ▸ hs) hexec

/-- Settles O54: it is the first half of what every instruction but POP AF keeps of F. -/
theorem lowNibbleKept : Obligations.LowNibbleKept := fun _ _ _ hi h => (exec_flagsKeptBut hi h).1

/-- Settles O55: POP AF masks the byte it writes to F, and every other instruction keeps F[3:0]. -/
theorem maskedFlagsInvariant : Obligations.MaskedFlagsInvariant := by
  intro s t ⟨hmask, hlow⟩ hstep
  obtain ⟨i, hexec⟩ := step_next hstep
  obtain ⟨-, hf, hparams⟩ := beforeRule_same i s
  obtain ⟨-, -, hkept⟩ := exec_interrupts hexec
  refine ⟨by rw [hkept, hparams, hmask], ?_⟩
  by_cases hi : i = .popAf
  · subst hi
    rw [exec_popAf_f hexec]
    exact lowNibble_poppedF (by rw [hparams, hmask]) _
  · rw [lowNibbleKept i _ t hi hexec, hf, hlow]

/-- Settles O57: the class of POP AF lists all four flags, and every other instruction keeps the flags outside its class. -/
theorem flagWriteClasses : Obligations.FlagWriteClasses := by
  intro i fl s t h hfl
  by_cases hi : i = .popAf
  · subst hi
    have hall : flagWrites .popAf = [.z, .n, .h, .c] := rfl
    cases fl <;> simp [hall] at hfl
  · exact (exec_flagsKeptBut hi h).2 fl hfl

/-- Settles O51: a pair is its two bytes joined, so each law is one of the accessors'. -/
theorem pairWrite : Obligations.PairWrite := by
  intro rr v r w s
  refine ⟨⟨reg16_setReg16_same s rr v, setReg16_written s rr v⟩, reg8_setReg8_same s r w, fun q hq => ?_,
    joinBytes_toNat _ _, joinBytes_toNat _ _, joinBytes_toNat _ _⟩
  rw [reg8_setReg8, if_neg (List.ne_of_not_mem_cons hq)]

/-- Settles O2: each register is read off the record. -/
theorem powerOnState : Obligations.PowerOnState :=
  ⟨fun _ _ => ⟨fun r => by cases r <;> rfl, rfl, rfl, rfl, rfl, rfl, rfl, rfl⟩, rfl, fun _ => rfl⟩

/-- Settles O3: reset lists no memory, and F is 0 at power-on. -/
theorem invariantsHoldAtReset : Obligations.InvariantsHoldAtReset := ⟨wf_nil, fun _ _ => ⟨rfl, rfl⟩⟩

/-- Settles O52, clause by clause from what a host write leaves of each cell and byte. -/
theorem hostAccess : Obligations.HostAccess := by
  intro s w r v x b
  refine ⟨hostWrite_pending_params s w, ⟨?_, fun q hq => ?_, hostWrite_cell_rest s r v⟩, rfl, rfl, rfl, ?_, fun a ha => ?_, fun q => ?_⟩
  · rw [hostCell_hostWrite_cell, if_pos rfl]
  · rw [hostCell_hostWrite_cell, if_neg hq]
  · rw [hostWrite_memory_read, if_pos rfl]
  · rw [hostWrite_memory_read, if_neg (List.ne_of_not_mem_cons ha)]
  · cases q <;> rfl

end Sys2Proof.Machine
end

section
/-! The memory (20_memory.md): the bytes an instruction writes and the bytes it depends on, by the rows of R76. -/

namespace Sys2Proof.Machine

/-! ## What an instruction writes -/

theorem sameMemoryBut_of_mem_eq {addresses : List Word} {s t : State} (h : t.mem = s.mem) : sameMemoryBut addresses s t :=
  fun a _ => congrArg (Memory.read · a) h

theorem sameMemoryBut_setOperand (s : State) (o : Operand8) (v : Byte) :
    sameMemoryBut (operandStores o s) s (s.setOperand o v) := by
  cases o with
  | reg r => exact sameMemoryBut_of_mem_eq (setReg8_mem s r v)
  | atHl => exact fun a ha => (write_read s s.hl a v).trans (if_neg (List.ne_of_not_mem_cons ha))

theorem length_operandStores (o : Operand8) (s : State) : (operandStores o s).length ≤ 1 := by
  cases o <;> simp [operandStores]

/-- The order of the two addresses of a push is R78's; the frame does not depend on it. -/
theorem sameMemoryBut_of_pushedWord {v : Word} {s t : State} (h : pushedWord v s t) : sameMemoryBut [s.sp - 1, s.sp - 2] s t := by
  obtain ⟨-, -, -, hframe⟩ := h
  exact fun a ha => hframe a fun hmem => ha (List.Perm.mem_iff (.swap ..) |>.1 hmem)

/-- Every instruction leaves each byte of memory outside its stores. -/
theorem exec_sameMemoryBut {i : Instr} {s t : State} (h : exec i s = .next t) : sameMemoryBut (storedAddresses i s) s t := by
  obtain ⟨r, hr, ht⟩ := runsAs_of_next h
  cases hr
  case raiseUnimplemented => cases ht
  case jumpIf | jumpRelativeIf | returnIf =>
    obtain ht | rfl := next_of_ite ht
    · cases ht
      exact sameMemoryBut_of_mem_eq rfl
    · exact sameMemoryBut_of_mem_eq rfl
  case ldMem x v k hclass =>
    obtain ⟨-, hframe, -⟩ := completes_next (ldMem_spec x v k s) ht
    exact hclass.stores ▸ hframe
  case ldHlMoveA delta hclass =>
    obtain ⟨-, -, -, -, -, hframe, -⟩ := completes_next (ldHlMoveA_spec delta s) ht
    exact hclass.stores ▸ hframe
  case ldMemSp nn hclass =>
    obtain ⟨-, -, hframe, -⟩ := completes_next (ldMemSp_spec nn s) ht
    exact hclass.stores ▸ hframe
  case callTo x k hclass =>
    obtain ⟨-, hpushed, -⟩ := completes_next (callTo_spec x k s) ht
    exact hclass.stores ▸ sameMemoryBut_of_pushedWord hpushed
  case pushPair rr hclass =>
    obtain ⟨hpushed, -⟩ := completes_next (pushPair_spec rr s) ht
    exact hclass.stores ▸ sameMemoryBut_of_pushedWord hpushed
  case callIf cc nn hclass =>
    have hcall := completes_next (callIf_spec cc nn s) ht
    rw [hclass.stores]
    split at hcall
    · obtain ⟨-, hpushed, -⟩ := hcall
      rw [if_pos ‹_›]
      exact sameMemoryBut_of_pushedWord hpushed
    · obtain ⟨-, -, -, -, hframe⟩ := hcall
      rwa [if_neg ‹_›]
  case incOperand o hclass | decOperand o hclass | rotateOperand o hclass | resetBit o hclass | setBit o hclass =>
    cases ht
    exact hclass.stores ▸ sameMemoryBut_setOperand s o _
  case aluA =>
    cases ht
    exact sameMemoryBut_of_mem_eq (by simp [apply_ite State.mem])
  all_goals
    cases ht
    exact sameMemoryBut_of_mem_eq (by simp)

/-- No row of R76 lists more than two writes. -/
theorem length_storedAddresses_le (i : Instr) (s : State) : (storedAddresses i s).length ≤ 2 := by
  have hr := exec_runsAs i s
  generalize exec i s = r at hr
  cases hr
  case callIf hclass =>
    rw [hclass.stores]
    split <;> simp
  case incOperand o hclass | decOperand o hclass | rotateOperand o hclass | resetBit o hclass | setBit o hclass =>
    rw [hclass.stores]
    exact (length_operandStores o s).trans (by decide)
  all_goals
    rename_i hclass
    simp [hclass.stores]

/-! ## What an instruction reads

Two runs of one rule are compared: in `s`, with the result `r`, and in `s` with the memory `m`, with the result `r'`. -/

/-- If `m` has the bytes of `s` where `accesses` reads, the second run ends in the state of the first but for the memory, and has
its bytes where `accesses` writes (R76). -/
def dependsOnReads (accesses : List Access) (s : State) (m : Memory) (r r' : Result) : Prop :=
  (∀ a, .read a ∈ accesses → m.read a = s.read a) → ∀ t, r = .next t →
    ∃ m', r' = .next { t with mem := m' } ∧ ∀ a, .write a ∈ accesses → m'.read a = t.read a

theorem mem_readAddresses {i : Instr} {s : State} {a : Word} : a ∈ readAddresses i s ↔ .read a ∈ dataAccesses i s := by
  simp only [readAddresses, List.mem_filterMap]
  constructor
  · rintro ⟨access, hmem, hread⟩
    cases access <;> cases hread
    exact hmem
  · exact fun hmem => ⟨_, hmem, rfl⟩

theorem mem_storedAddresses {i : Instr} {s : State} {a : Word} : a ∈ storedAddresses i s ↔ .write a ∈ dataAccesses i s := by
  simp only [storedAddresses, List.mem_filterMap]
  constructor
  · rintro ⟨access, hmem, hwrite⟩
    cases access <;> cases hwrite
    exact hmem
  · exact fun hmem => ⟨_, hmem, rfl⟩

section
variable {s t : State} {m : Memory} {accesses : List Access}

/-! ### Rules by what they do to memory -/

theorem dependsOnReads_next {m' : Memory} (h : ∀ a, .write a ∈ accesses → m'.read a = t.read a) :
    dependsOnReads accesses s m (.next t) (.next { t with mem := m' }) := by
  rintro - _ ⟨⟩
  exact ⟨m', rfl, h⟩

/-- A rule that writes nothing leaves each run its memory. -/
theorem dependsOnReads_of_no_write (h : ∀ a, .write a ∉ accesses) :
    dependsOnReads accesses s m (.next t) (.next { t with mem := m }) :=
  dependsOnReads_next fun a ha => absurd ha (h a)

theorem dependsOnReads_of_no_access : dependsOnReads [] s m (.next t) (.next { t with mem := m }) :=
  dependsOnReads_of_no_write nofun

/-- A fault has no next state to compare. -/
theorem dependsOnReads_fault (f : Fault) (r' : Result) : dependsOnReads accesses s m (.fault f) r' := fun _ _ => nofun

/-- Both runs write the same byte at the one address. -/
theorem dependsOnReads_of_write {x : Word} {v : Byte} (hx : ∀ a, .write a ∈ accesses → a = x) (ht : t.mem = s.mem.write x v) :
    dependsOnReads accesses s m (.next t) (.next { t with mem := m.write x v }) :=
  dependsOnReads_next fun a ha => by rw [State.read, ht, hx a ha, read_write, read_write, if_pos rfl, if_pos rfl]

theorem dependsOnReads_write {x : Word} {v : Byte} (ht : t.mem = s.mem.write x v) :
    dependsOnReads [.write x] s m (.next t) (.next { t with mem := m.write x v }) :=
  dependsOnReads_of_write (by simp) ht

theorem dependsOnReads_modify {x : Word} {v : Byte} (ht : t.mem = s.mem.write x v) :
    dependsOnReads (modifyAccesses x) s m (.next t) (.next { t with mem := m.write x v }) :=
  dependsOnReads_of_write (by simp [modifyAccesses]) ht

/-- What a two-byte write leaves at its two addresses does not depend on the memory before it. -/
theorem write16_read_congr {x v a : Word} (ha : a = x ∨ a = x + 1) :
    ({ s with mem := m }.write16 x v).read a = (s.write16 x v).read a := by
  rw [write16_read, write16_read]
  rcases ha with rfl | rfl <;> simp

/-- Nor does what a push leaves at its two addresses. -/
theorem push16_read_congr {v a : Word} (ha : a = s.sp - 1 ∨ a = s.sp - 2) :
    ({ s with mem := m }.push16 v).read a = (s.push16 v).read a := by
  rw [push16_read, push16_read]
  rcases ha with rfl | rfl <;> simp

/-- Both runs write the same word at the two addresses. -/
theorem dependsOnReads_write16 {x v : Word} (ht : t.mem = (s.write16 x v).mem) :
    dependsOnReads [.write x, .write (x + 1)] s m (.next t) (.next { t with mem := ({ s with mem := m }.write16 x v).mem }) :=
  dependsOnReads_next fun a ha =>
    (write16_read_congr (by simpa using ha)).trans (congrArg (Memory.read · a) ht.symm)

/-- Both runs push the same word. -/
theorem dependsOnReads_push16 {v : Word} (ht : t.mem = (s.push16 v).mem) :
    dependsOnReads (pushAccesses s) s m (.next t) (.next { t with mem := ({ s with mem := m }.push16 v).mem }) :=
  dependsOnReads_next fun a ha =>
    (push16_read_congr (by simpa [pushAccesses] using ha)).trans (congrArg (Memory.read · a) ht.symm)

/-- Both runs take the same branch. -/
theorem dependsOnReads_branch {taken : Prop} [Decidable taken] {r r' u u' : Result} (hr : dependsOnReads accesses s m r r')
    (hu : dependsOnReads accesses s m u u') : dependsOnReads accesses s m (if taken then r else u) (if taken then r' else u') := by
  split
  · exact hr
  · exact hu

/-- Both runs take the same branch, and the branch taken alone accesses memory. -/
theorem dependsOnReads_conditional {taken : Prop} [Decidable taken] {r r' u u' : Result} (hr : dependsOnReads accesses s m r r')
    (hu : dependsOnReads [] s m u u') :
    dependsOnReads (if taken then accesses else []) s m (if taken then r else u) (if taken then r' else u') := by
  split
  · exact hr
  · exact hu

/-! ### The values read -/

theorem operand_atHl_congr (h : m.read s.hl = s.read s.hl) : ({ s with mem := m } : State).operand .atHl = s.operand .atHl := h

theorem top16_congr (hread : ∀ a, .read a ∈ popAccesses s → m.read a = s.read a) : ({ s with mem := m } : State).top16 = s.top16 :=
  congrArg₂ joinBytes (hread (s.sp + 1) (.tail _ (.head _))) (hread s.sp (.head _))

/-! ### The shared meanings that read memory -/

theorem ldRegMem_dependsOnReads (r : Reg8) (x : Word) (k : Nat) :
    dependsOnReads [.read x] s m (ldRegMem r x k s) (ldRegMem r x k { s with mem := m }) := by
  intro hread
  have hx : ({ s with mem := m } : State).read x = s.read x := hread x (.head _)
  unfold ldRegMem
  rw [hx]
  cases r <;> exact dependsOnReads_of_no_write (by simp) hread

theorem ldAHlMove_dependsOnReads (delta : Word) :
    dependsOnReads [.read s.hl] s m (ldAHlMove delta s) (ldAHlMove delta { s with mem := m }) := by
  intro hread
  have hx : ({ s with mem := m } : State).read ({ s with mem := m } : State).hl = s.read s.hl := hread s.hl (.head _)
  unfold ldAHlMove
  rw [hx]
  exact dependsOnReads_of_no_write (by simp) hread

theorem aluA_dependsOnReads (op : AluOp) (x : Word) (k : Nat) :
    dependsOnReads [.read x] s m (aluA op (s.read x) k s) (aluA op (m.read x) k { s with mem := m }) := by
  intro hread
  rw [hread x (.head _)]
  cases op <;> exact dependsOnReads_of_no_write (by simp) hread

theorem testBit_dependsOnReads (b : Fin 8) :
    dependsOnReads [.read s.hl] s m (testBit b .atHl s) (testBit b .atHl { s with mem := m }) := by
  intro hread
  unfold testBit
  rw [operand_atHl_congr (hread s.hl (.head _))]
  exact dependsOnReads_of_no_write (by simp) hread

theorem incOperand_dependsOnReads :
    dependsOnReads (modifyAccesses s.hl) s m (incOperand .atHl s) (incOperand .atHl { s with mem := m }) := by
  intro hread
  unfold incOperand
  rw [operand_atHl_congr (hread s.hl (.head _))]
  exact dependsOnReads_modify rfl hread

theorem decOperand_dependsOnReads :
    dependsOnReads (modifyAccesses s.hl) s m (decOperand .atHl s) (decOperand .atHl { s with mem := m }) := by
  intro hread
  unfold decOperand
  rw [operand_atHl_congr (hread s.hl (.head _))]
  exact dependsOnReads_modify rfl hread

theorem rotateOperand_dependsOnReads (op : RotOp) :
    dependsOnReads (modifyAccesses s.hl) s m (rotateOperand op .atHl s) (rotateOperand op .atHl { s with mem := m }) := by
  intro hread
  unfold rotateOperand
  rw [operand_atHl_congr (hread s.hl (.head _))]
  exact dependsOnReads_modify rfl hread

theorem resetBit_dependsOnReads (b : Fin 8) :
    dependsOnReads (modifyAccesses s.hl) s m (resetBit b .atHl s) (resetBit b .atHl { s with mem := m }) := by
  intro hread
  unfold resetBit
  rw [operand_atHl_congr (hread s.hl (.head _))]
  exact dependsOnReads_modify rfl hread

theorem setBit_dependsOnReads (b : Fin 8) :
    dependsOnReads (modifyAccesses s.hl) s m (setBit b .atHl s) (setBit b .atHl { s with mem := m }) := by
  intro hread
  unfold setBit
  rw [operand_atHl_congr (hread s.hl (.head _))]
  exact dependsOnReads_modify rfl hread

theorem popAccesses_no_write (a : Word) : .write a ∉ popAccesses s := by simp [popAccesses]

theorem popPair_dependsOnReads (rr : StackPair) :
    dependsOnReads (popAccesses s) s m (popPair rr s) (popPair rr { s with mem := m }) := by
  intro hread
  unfold popPair
  rw [top16_congr hread]
  cases rr <;> exact dependsOnReads_of_no_write popAccesses_no_write hread

theorem popAccumulatorFlags_dependsOnReads :
    dependsOnReads (popAccesses s) s m (popAccumulatorFlags s) (popAccumulatorFlags { s with mem := m }) := by
  intro hread
  unfold popAccumulatorFlags
  rw [top16_congr hread]
  exact dependsOnReads_of_no_write popAccesses_no_write hread

theorem returnTo_dependsOnReads : dependsOnReads (popAccesses s) s m (returnTo s) (returnTo { s with mem := m }) := by
  intro hread
  unfold returnTo
  rw [top16_congr hread]
  exact dependsOnReads_of_no_write popAccesses_no_write hread

theorem returnFromInterrupt_dependsOnReads :
    dependsOnReads (popAccesses s) s m (returnFromInterrupt s) (returnFromInterrupt { s with mem := m }) := by
  intro hread
  unfold returnFromInterrupt
  rw [top16_congr hread]
  exact dependsOnReads_of_no_write popAccesses_no_write hread

end

/-- Every instruction depends on the bytes it reads alone, by the rows of R76; the rule of an instruction without an access
computes the same registers in both runs. -/
theorem exec_dependsOnReads (i : Instr) (s : State) (m : Memory) :
    dependsOnReads (dataAccesses i s) s m (exec i s) (exec i { s with mem := m }) := by
  cases i
  case ldBAtHl | ldCAtHl | ldDAtHl | ldEAtHl | ldHAtHl | ldLAtHl | ldAAtHl | ldAAtBc | ldAAtDe | ldAAtNn | ldhAAtN | ldhAAtC =>
    exact ldRegMem_dependsOnReads _ _ _
  case ldAAtHlInc | ldAAtHlDec => exact ldAHlMove_dependsOnReads _
  case addAAtHl | adcAAtHl | subAAtHl | sbcAAtHl | andAAtHl | xorAAtHl | orAAtHl | cpAAtHl => exact aluA_dependsOnReads _ _ _
  case bit0AtHl | bit1AtHl | bit2AtHl | bit3AtHl | bit4AtHl | bit5AtHl | bit6AtHl | bit7AtHl => exact testBit_dependsOnReads _
  case ldAtHlB | ldAtHlC | ldAtHlD | ldAtHlE | ldAtHlH | ldAtHlL | ldAtHlA | ldAtHlN | ldAtHlIncA | ldAtHlDecA | ldAtBcA | ldAtDeA |
      ldAtNnA | ldhAtNA | ldhAtCA =>
    exact dependsOnReads_write rfl
  case incAtHl => exact incOperand_dependsOnReads
  case decAtHl => exact decOperand_dependsOnReads
  case rlcAtHl | rrcAtHl | rlAtHl | rrAtHl | slaAtHl | sraAtHl | swapAtHl | srlAtHl => exact rotateOperand_dependsOnReads _
  case res0AtHl | res1AtHl | res2AtHl | res3AtHl | res4AtHl | res5AtHl | res6AtHl | res7AtHl => exact resetBit_dependsOnReads _
  case set0AtHl | set1AtHl | set2AtHl | set3AtHl | set4AtHl | set5AtHl | set6AtHl | set7AtHl => exact setBit_dependsOnReads _
  case ldAtNnSp => exact dependsOnReads_write16 rfl
  case pushBc | pushDe | pushHl | pushAf | callNn | rst00 | rst08 | rst10 | rst18 | rst20 | rst28 | rst30 | rst38 =>
    exact dependsOnReads_push16 rfl
  case callNzNn | callZNn | callNcNn | callCNn =>
    exact dependsOnReads_conditional (dependsOnReads_push16 rfl) dependsOnReads_of_no_access
  case popBc | popDe | popHl => exact popPair_dependsOnReads _
  case popAf => exact popAccumulatorFlags_dependsOnReads
  case ret => exact returnTo_dependsOnReads
  case reti => exact returnFromInterrupt_dependsOnReads
  case retNz | retZ | retNc | retC => exact dependsOnReads_conditional returnTo_dependsOnReads dependsOnReads_of_no_access
  case jpNzNn | jpZNn | jpNcNn | jpCNn | jrNzE | jrZE | jrNcE | jrCE =>
    exact dependsOnReads_branch dependsOnReads_of_no_access dependsOnReads_of_no_access
  case stop | halt | illegalD3 | illegalDB | illegalDD | illegalE3 | illegalE4 | illegalEB | illegalEC | illegalED | illegalF4 |
      illegalFC | illegalFD =>
    exact dependsOnReads_fault _ _
  all_goals exact dependsOnReads_of_no_access

/-! ## The statements of 20_memory.md -/

/-- Settles O56: the frame and the number of stores, each by cases over the shared meanings. -/
theorem memoryFrame : Obligations.MemoryFrame := fun i s _ h => ⟨exec_sameMemoryBut h, length_storedAddresses_le i s⟩

/-- Settles O60: the second run ends in the state of the first with its own memory. -/
theorem readsOnlyItsBytes : Obligations.ReadsOnlyItsBytes := by
  intro i s t m hread hexec
  obtain ⟨m', hsecond, hwrites⟩ := exec_dependsOnReads i s m (fun a ha => hread a (mem_readAddresses.2 ha)) t hexec
  exact ⟨_, hsecond, rfl, fun a ha => hwrites a (mem_storedAddresses.1 ha)⟩

end Sys2Proof.Machine
end

section
/-! The encoding (30_encoding.md): `decode` and `encode` are inverse to each other, and `decode` fails on nothing but a missing byte. -/

namespace Sys2Proof

/-! ## Instructions and their bytes -/

open Laws.Selects in
/-- The rows of `Laws.Selects` together, in the order of the constructors of `Instr` (R114 to R119). -/
theorem decodeFrom_encode (i : Instr) : i.WellFormed = true → decodeFrom (byteAt (encode i)) = .ok i :=
  Instr.rec (motive := Laws.Selects.Statement)
    ldBcNn ldBN ldAtNnSp ldCN ldDeNn ldDN jrE ldEN jrNzE ldHlNn ldHN jrZE ldLN jrNcE ldSpNn ldAtHlN jrCE ldAN jpNzNn jpNn callNzNn addAN
    jpZNn callZNn callNn adcAN jpNcNn callNcNn subAN jpCNn callCNn sbcAN ldhAtNA andAN addSpE ldAtNnA xorAN ldhAAtN orAN ldHlSpE ldAAtNn
    cpAN nop ldAtBcA incBc incB decB rlca addHlBc ldAAtBc decBc incC decC rrca stop ldAtDeA incDe incD decD rla addHlDe ldAAtDe decDe
    incE decE rra ldAtHlIncA incHl incH decH daa addHlHl ldAAtHlInc decHl incL decL cpl ldAtHlDecA incSp incAtHl decAtHl scf addHlSp
    ldAAtHlDec decSp incA decA ccf ldBB ldBC ldBD ldBE ldBH ldBL ldBAtHl ldBA ldCB ldCC ldCD ldCE ldCH ldCL ldCAtHl ldCA ldDB ldDC ldDD
    ldDE ldDH ldDL ldDAtHl ldDA ldEB ldEC ldED ldEE ldEH ldEL ldEAtHl ldEA ldHB ldHC ldHD ldHE ldHH ldHL ldHAtHl ldHA ldLB ldLC ldLD
    ldLE ldLH ldLL ldLAtHl ldLA ldAtHlB ldAtHlC ldAtHlD ldAtHlE ldAtHlH ldAtHlL halt ldAtHlA ldAB ldAC ldAD ldAE ldAH ldAL ldAAtHl ldAA
    addAB addAC addAD addAE addAH addAL addAAtHl addAA adcAB adcAC adcAD adcAE adcAH adcAL adcAAtHl adcAA subAB subAC subAD subAE subAH
    subAL subAAtHl subAA sbcAB sbcAC sbcAD sbcAE sbcAH sbcAL sbcAAtHl sbcAA andAB andAC andAD andAE andAH andAL andAAtHl andAA xorAB
    xorAC xorAD xorAE xorAH xorAL xorAAtHl xorAA orAB orAC orAD orAE orAH orAL orAAtHl orAA cpAB cpAC cpAD cpAE cpAH cpAL cpAAtHl cpAA
    retNz popBc pushBc rst00 retZ ret rst08 retNc popDe illegalD3 pushDe rst10 retC reti illegalDB illegalDD rst18 popHl ldhAtCA
    illegalE3 illegalE4 pushHl rst20 jpHl illegalEB illegalEC illegalED rst28 popAf ldhAAtC di illegalF4 pushAf rst30 ldSpHl ei
    illegalFC illegalFD rst38 rlcB rlcC rlcD rlcE rlcH rlcL rlcAtHl rlcA rrcB rrcC rrcD rrcE rrcH rrcL rrcAtHl rrcA rlB rlC rlD rlE rlH
    rlL rlAtHl rlA rrB rrC rrD rrE rrH rrL rrAtHl rrA slaB slaC slaD slaE slaH slaL slaAtHl slaA sraB sraC sraD sraE sraH sraL sraAtHl
    sraA swapB swapC swapD swapE swapH swapL swapAtHl swapA srlB srlC srlD srlE srlH srlL srlAtHl srlA bit0B bit0C bit0D bit0E bit0H
    bit0L bit0AtHl bit0A bit1B bit1C bit1D bit1E bit1H bit1L bit1AtHl bit1A bit2B bit2C bit2D bit2E bit2H bit2L bit2AtHl bit2A bit3B
    bit3C bit3D bit3E bit3H bit3L bit3AtHl bit3A bit4B bit4C bit4D bit4E bit4H bit4L bit4AtHl bit4A bit5B bit5C bit5D bit5E bit5H bit5L
    bit5AtHl bit5A bit6B bit6C bit6D bit6E bit6H bit6L bit6AtHl bit6A bit7B bit7C bit7D bit7E bit7H bit7L bit7AtHl bit7A res0B res0C
    res0D res0E res0H res0L res0AtHl res0A res1B res1C res1D res1E res1H res1L res1AtHl res1A res2B res2C res2D res2E res2H res2L
    res2AtHl res2A res3B res3C res3D res3E res3H res3L res3AtHl res3A res4B res4C res4D res4E res4H res4L res4AtHl res4A res5B res5C
    res5D res5E res5H res5L res5AtHl res5A res6B res6C res6D res6E res6H res6L res6AtHl res6A res7B res7C res7D res7E res7H res7L
    res7AtHl res7A set0B set0C set0D set0E set0H set0L set0AtHl set0A set1B set1C set1D set1E set1H set1L set1AtHl set1A set2B set2C
    set2D set2E set2H set2L set2AtHl set2A set3B set3C set3D set3E set3H set3L set3AtHl set3A set4B set4C set4D set4E set4H set4L
    set4AtHl set4A set5B set5C set5D set5E set5H set5L set5AtHl set5A set6B set6C set6D set6E set6H set6L set6AtHl set6A set7B set7C
    set7D set7E set7H set7L set7AtHl set7A
    i

/-- The length by the first byte (R120), where more bytes follow the instruction. -/
theorem length_encode {ε : Type} {fetch : Nat → Except ε Byte} {i : Instr} (h : decodeFrom fetch = .ok i) (rest : List Byte) :
    (encode i).length = opcodeLength ((encode i ++ rest).headD 0) := by
  obtain ⟨-, -, hlength, hne⟩ := decodeFrom_ok h
  cases hcode : encode i with
  | nil => exact absurd hcode hne
  | cons => simpa [hcode] using hlength

/-- An instruction that is not its opcode alone has more than one byte (R120). -/
theorem one_lt_opcodeLength {b0 : Byte} (h : ∀ i, primaryEntry b0 ≠ .op i) : 1 < opcodeLength b0 := by
  have hb := EntryAgrees.all b0
  unfold EntryAgrees at hb
  cases hentry : primaryEntry b0 with
  | op i => exact absurd hentry (h i)
  | cb =>
    rw [hentry] at hb
    subst hb
    decide
  | n8 | e8 | n16 =>
    rw [hentry] at hb
    omega

theorem opcodeLength_n16 {b0 : Byte} {i : Word → Instr} (h : primaryEntry b0 = .n16 i) : opcodeLength b0 = 3 := by
  have hb := EntryAgrees.all b0
  unfold EntryAgrees at hb
  rw [h] at hb
  exact hb.2

/-! ## What `decode` answers -/

theorem byteAt_eq_ok {bytes : List Byte} {k : Nat} {b : Byte} : byteAt bytes k = .ok b ↔ bytes[k]? = some b := by
  unfold byteAt
  split <;> simp [*]

theorem byteAt_eq_missingByte {bytes : List Byte} {k n : Nat} :
    byteAt bytes n = .error (.missingByte k) ↔ n = k ∧ bytes.length ≤ n := by
  unfold byteAt
  split
  · next b hb => simpa using fun _ => (List.getElem?_eq_some_iff.1 hb).1
  · next hnone => simpa using fun _ => List.getElem?_eq_none_iff.1 hnone

/-- What is read from a list of bytes stands encoded at its head, and the bytes after the encoding are left. -/
theorem decode_of_decodeFrom {bytes : List Byte} {i : Instr} (h : decodeFrom (byteAt bytes) = .ok i) :
    ∃ rest, bytes = encode i ++ rest ∧ decode bytes = .ok (i, rest) := by
  obtain ⟨hread, -⟩ := decodeFrom_ok h
  have hprefix : encode i <+: bytes :=
    List.prefix_iff_getElem?.2 fun k hk => byteAt_eq_ok.1 (hread k _ (List.getElem?_eq_getElem hk))
  obtain ⟨rest, rfl⟩ := hprefix
  refine ⟨rest, rfl, ?_⟩
  rw [decode, h, ← length_encode h]
  simp

theorem decode_eq_ok {bytes rest : List Byte} {i : Instr} :
    decode bytes = .ok (i, rest) ↔ decodeFrom (byteAt bytes) = .ok i ∧ bytes = encode i ++ rest := by
  constructor
  · intro h
    cases hfrom : decodeFrom (byteAt bytes) with
    | error => simp [decode, hfrom] at h
    | ok j =>
      obtain ⟨rest', hbytes, hdecode⟩ := decode_of_decodeFrom hfrom
      cases hdecode.symm.trans h
      exact ⟨rfl, hbytes⟩
  · rintro ⟨hfrom, rfl⟩
    obtain ⟨rest', hbytes, hdecode⟩ := decode_of_decodeFrom hfrom
    cases List.append_cancel_left hbytes
    exact hdecode

theorem decode_eq_error {bytes : List Byte} {r : DecodeError} :
    decode bytes = .error r ↔ decodeFrom (byteAt bytes) = .error r := by
  unfold decode
  split <;> simp [*]

/-! ## Where decoding ends without an instruction -/

/-- A reading that fails does so at the first byte that `fetch` does not give, one within the length of the instruction (R120). -/
theorem decodeFrom_error {ε : Type} {fetch : Nat → Except ε Byte} {r : ε} (h : decodeFrom fetch = .error r) :
    ∃ k, fetch k = .error r ∧ (∀ j < k, ∃ b, fetch j = .ok b) ∧ (k = 0 ∨ ∃ b0, fetch 0 = .ok b0 ∧ k < opcodeLength b0) := by
  unfold decodeFrom at h
  cases h0 : fetch 0 with
  | error =>
    simp only [h0, Except.error.injEq] at h
    subst h
    exact ⟨0, h0, nofun, .inl rfl⟩
  | ok b0 =>
    cases h1 : fetch 1 with
    | error =>
      have hlength : 1 < opcodeLength b0 := one_lt_opcodeLength fun i hi => by simp [h0, hi] at h
      refine ⟨1, ?_, fun j hj => ⟨b0, by rwa [Nat.lt_one_iff.1 hj]⟩, .inr ⟨b0, rfl, hlength⟩⟩
      cases hentry : primaryEntry b0 with
      | op => simp [h0, hentry] at h
      | n8 | e8 | n16 | cb => simpa [h0, h1, hentry] using h
    | ok b1 =>
      cases hentry : primaryEntry b0 with
      | op | n8 | e8 | cb => simp [h0, h1, hentry] at h
      | n16 i =>
        refine ⟨2, ?_, fun j hj => ?_, .inr ⟨b0, rfl, by simp [opcodeLength_n16 hentry]⟩⟩
        · cases h2 : fetch 2 with
          | ok => simp [h0, h1, h2, hentry] at h
          | error => simpa [h0, h1, h2, hentry] using h
        · obtain rfl | rfl : j = 0 ∨ j = 1 := by omega
          · exact ⟨b0, h0⟩
          · exact ⟨b1, h1⟩

/-- A list of bytes that decodes to no instruction ends at the byte named (R120). -/
theorem length_of_decode_missingByte {bytes : List Byte} {k : Nat} (h : decode bytes = .error (.missingByte k)) :
    bytes.length = k ∧ (k = 0 ∨ k < opcodeLength (bytes.headD 0)) := by
  obtain ⟨n, hmissing, hbefore, hwithin⟩ := decodeFrom_error (decode_eq_error.1 h)
  obtain ⟨rfl, hle⟩ := byteAt_eq_missingByte.1 hmissing
  refine ⟨hle.antisymm (le_of_forall_lt fun j hj => ?_), hwithin.imp_right ?_⟩
  · obtain ⟨b, hb⟩ := hbefore j hj
    exact (List.getElem?_eq_some_iff.1 (byteAt_eq_ok.1 hb)).1
  · rintro ⟨b0, h0, hlength⟩
    rwa [List.headD_eq_head?_getD, List.head?_eq_getElem?, byteAt_eq_ok.1 h0]

/-- A list of bytes that decodes to an instruction holds all its bytes (R120). -/
theorem opcodeLength_le_of_decode_ok {bytes rest : List Byte} {i : Instr} (h : decode bytes = .ok (i, rest)) :
    bytes ≠ [] ∧ opcodeLength (bytes.headD 0) ≤ bytes.length := by
  obtain ⟨hfrom, rfl⟩ := decode_eq_ok.1 h
  obtain ⟨-, -, -, hne⟩ := decodeFrom_ok hfrom
  rw [← length_encode hfrom]
  exact ⟨List.append_ne_nil_of_left_ne_nil hne rest, by simp⟩

/-! ## The statements of 30_encoding.md -/

/-- Settles O5: the bytes of `i` select it, and so they do with more bytes after them. -/
theorem decodeEncode : Obligations.DecodeEncode := by
  intro i rest hwf
  refine decode_eq_ok.2 ⟨decodeFrom_mono (decodeFrom_encode i hwf) fun k b hk => ?_, rfl⟩
  rw [byteAt_eq_ok] at hk ⊢
  rwa [List.getElem?_append_left (List.getElem?_eq_some_iff.1 hk).1]

/-- Settles O6, by the inversion of `decodeFrom`. -/
theorem encodeDecode : Obligations.EncodeDecode := by
  intro bytes i rest h
  obtain ⟨hfrom, rfl⟩ := decode_eq_ok.1 h
  obtain ⟨-, hwf, -⟩ := decodeFrom_ok hfrom
  exact ⟨rfl, hwf, length_encode hfrom rest⟩

/-- Settles O7: bytes too few for an instruction decode to none, and the error names where they end. -/
theorem decodeFailsOnlyOnMissingByte : Obligations.DecodeFailsOnlyOnMissingByte := by
  intro bytes k
  refine ⟨length_of_decode_missingByte, ?_⟩
  rintro ⟨rfl, hshort⟩
  cases hdecode : decode bytes with
  | ok answer =>
    obtain ⟨hne, hle⟩ := opcodeLength_le_of_decode_ok hdecode
    obtain hnil | hlt := hshort
    · exact absurd (List.eq_nil_of_length_eq_zero hnil) hne
    · omega
  | error r =>
    obtain ⟨k⟩ := r
    rw [(length_of_decode_missingByte hdecode).1]

/-- Settles O4: the decoder evaluates each word to its instruction. -/
theorem sampleWordsDecode : Obligations.SampleWordsDecode :=
  ⟨rfl, rfl, rfl, rfl, rfl, rfl, rfl, rfl, rfl, rfl, rfl, rfl, rfl, rfl, rfl, rfl, rfl, rfl, rfl, rfl⟩

end Sys2Proof
end

section
/-! The dispatch (40_dispatch.md): what a step runs and when it stops, the next pc, the cycle count, and the two instruction sources. -/

namespace Sys2Proof

/-! ## Instructions and the bytes they are read from -/

/-- A source gives an instruction where it gives the bytes of its encoding. -/
theorem decodeFrom_eq_ok {ε : Type} {fetch : Nat → Except ε Byte} {i : Instr} :
    decodeFrom fetch = .ok i ↔ i.WellFormed = true ∧ ∀ k b, (encode i)[k]? = some b → fetch k = .ok b := by
  constructor
  · intro h
    obtain ⟨hread, hwf, -⟩ := decodeFrom_ok h
    exact ⟨hwf, hread⟩
  · rintro ⟨hwf, hread⟩
    exact decodeFrom_mono (decodeFrom_encode i hwf) fun k b hk => hread k b (byteAt_eq_ok.1 hk)

/-- The first byte read is the first byte of the encoding. -/
theorem headD_encode {ε : Type} {fetch : Nat → Except ε Byte} {i : Instr} {b0 : Byte} (h : decodeFrom fetch = .ok i)
    (h0 : fetch 0 = .ok b0) : (encode i).headD 0 = b0 := by
  obtain ⟨hread, -, -, hne⟩ := decodeFrom_ok h
  cases hcode : encode i with
  | nil => exact absurd hcode hne
  | cons b rest =>
    have hb : fetch 0 = .ok b := hread 0 b (by simp [hcode])
    cases hb.symm.trans h0
    rfl

/-- The length of what is read, by the first byte read (R120). -/
theorem length_encode_of_fetch {ε : Type} {fetch : Nat → Except ε Byte} {i : Instr} {b0 : Byte} (h : decodeFrom fetch = .ok i)
    (h0 : fetch 0 = .ok b0) : (encode i).length = opcodeLength b0 := by
  obtain ⟨-, -, hlength, -⟩ := decodeFrom_ok h
  rwa [headD_encode h h0] at hlength

/-- No instruction has more than three bytes (R120). -/
theorem opcodeLength_le (b0 : Byte) : opcodeLength b0 ≤ 3 := by
  unfold opcodeLength
  split
  · decide
  · split <;> decide

/-- Reading ends without an instruction at the first needed byte that the source does not give (R120, R141). -/
theorem decodeFrom_eq_error {ε : Type} {fetch : Nat → Except ε Byte} {r : ε} :
    decodeFrom fetch = .error r ↔
      ∃ k, fetch k = .error r ∧ (∀ j < k, ∃ b, fetch j = .ok b) ∧ (k = 0 ∨ ∃ b0, fetch 0 = .ok b0 ∧ k < opcodeLength b0) := by
  refine ⟨decodeFrom_error, ?_⟩
  rintro ⟨k, hk, hbefore, hwithin⟩
  have hmissing {b : Byte} : fetch k ≠ .ok b := by simp [hk]
  cases h : decodeFrom fetch with
  | ok i =>
    obtain ⟨hread, -, -, hne⟩ := decodeFrom_ok h
    have hlt : k < (encode i).length := by
      obtain rfl | ⟨b0, h0, hlt⟩ := hwithin
      · exact List.length_pos_of_ne_nil hne
      · rwa [length_encode_of_fetch h h0]
    exact absurd (hread k _ (List.getElem?_eq_getElem hlt)) hmissing
  | error r' =>
    obtain ⟨k', hk', hbefore', -⟩ := decodeFrom_error h
    obtain hlt | rfl | hgt := Nat.lt_trichotomy k k'
    · obtain ⟨b, hb⟩ := hbefore' k hlt
      exact absurd hb hmissing
    · rw [hk, Except.error.injEq] at hk'
      rw [hk']
    · obtain ⟨b, hb⟩ := hbefore k' hgt
      cases hb.symm.trans hk'

end Sys2Proof

namespace Sys2Proof.Machine

/-! ## The thirteen unimplemented instructions -/

/-- The rows of R143 as the encoder and `exec` have them. -/
theorem encode_exec_of_mem_unimplementedRows {i : Instr} {op : Byte} (h : (i, op) ∈ unimplementedRows) :
    encode i = [op] ∧ i.WellFormed = true ∧ ∀ s, exec i s = .fault (.unimplementedOpcode op s.pc) := by
  simp only [unimplementedRows, List.mem_cons, Prod.mk.injEq, List.not_mem_nil, or_false] at h
  rcases h with ⟨rfl, rfl⟩ | ⟨rfl, rfl⟩ | ⟨rfl, rfl⟩ | ⟨rfl, rfl⟩ | ⟨rfl, rfl⟩ | ⟨rfl, rfl⟩ | ⟨rfl, rfl⟩ | ⟨rfl, rfl⟩ | ⟨rfl, rfl⟩ |
    ⟨rfl, rfl⟩ | ⟨rfl, rfl⟩ | ⟨rfl, rfl⟩ | ⟨rfl, rfl⟩ <;> exact ⟨rfl, rfl, fun _ => rfl⟩

/-- No other instruction begins with one of the thirteen opcodes. -/
theorem isUnimplemented_eq (i : Instr) : isUnimplemented i = decide ((encode i).headD 0 ∈ unimplementedOpcodes) := by
  cases i <;> rfl

theorem mem_unimplementedRows_iff (i : Instr) :
    i ∈ unimplementedRows.map Prod.fst ↔ (encode i).headD 0 ∈ unimplementedOpcodes := by
  rw [← isUnimplemented_iff, isUnimplemented_eq, decide_eq_true_eq]

/-! ## What `execute` answers -/

theorem outcome_eq_fault {r : StepResult} {f : Fault} : r.outcome = .fault f ↔ r = .fault f := by
  cases r <;> simp [StepResult.outcome]

theorem execute_of_decodeFrom_error {src : FetchSource} {s : State} {r : Fault} (h : decodeFrom (fetchByte src s) = .error r) :
    execute src s = .fault r := by
  rw [execute, h]

/-- The source enters a step through the instruction it gives alone. -/
theorem execute_congr {src src' : FetchSource} {s : State} (h : decodeFrom (fetchByte src s) = decodeFrom (fetchByte src' s)) :
    execute src s = execute src' s := by
  rw [execute, execute, h]

/-- One of the thirteen opcodes faults wherever it comes from, and whatever follows it (R143). -/
theorem execute_unimplemented {src : FetchSource} {s : State} {i : Instr} {op : Byte} (hrow : (i, op) ∈ unimplementedRows)
    (h0 : fetchByte src s 0 = .ok op) : execute src s = .fault (.unimplementedOpcode op s.pc) := by
  obtain ⟨hcode, hwf, hexec⟩ := encode_exec_of_mem_unimplementedRows hrow
  have hdecode : decodeFrom (fetchByte src s) = .ok i := by
    refine decodeFrom_eq_ok.2 ⟨hwf, fun k b hk => ?_⟩
    rw [hcode, List.getElem?_singleton] at hk
    split at hk
    · next hzero =>
      cases hk
      rwa [hzero]
    · cases hk
  rw [← outcome_eq_fault, (execute_decoded hdecode).1, beforeRule_unimplemented s (List.mem_map_of_mem hrow), hexec]

/-- Every other instruction completes (R380, R387). -/
theorem exec_completes {i : Instr} (s : State) (hi : i ∉ unimplementedRows.map Prod.fst) : ∃ t, exec i s = .next t := by
  obtain hnext | ⟨op, hrow, -⟩ := exec_ends i s
  · exact hnext
  · exact absurd (List.mem_map_of_mem hrow) hi

/-- No rule raises AddressingError (R381). -/
theorem exec_ne_addressingError (i : Instr) (s : State) (index : Int) : exec i s ≠ .fault (.addressingError index) := by
  obtain ⟨t, h⟩ | ⟨op, -, h⟩ := exec_ends i s <;> simp [h]

/-! ## The two sources (R141) -/

theorem fetchByte_closedMemory_zero (s : State) : fetchByte .closedMemory s 0 = .ok (s.read s.pc) := by
  simp [fetchByte]

/-- The index lies in the buffer. -/
def inBuffer (bytes : List Byte) (index : Int) : Prop := 0 ≤ index ∧ index < bytes.length

theorem bufferByte_of_inBuffer {bytes : List Byte} {index : Int} (h : inBuffer bytes index) :
    bufferByte bytes index = .ok (bytes.getD index.toNat 0) := by
  obtain ⟨hnonneg, hlt⟩ := h
  have hlt : index.toNat < bytes.length := by omega
  simp [bufferByte, hnonneg, hlt]

theorem bufferByte_of_not_inBuffer {bytes : List Byte} {index : Int} (h : ¬inBuffer bytes index) :
    bufferByte bytes index = .error (.addressingError index) := by
  unfold bufferByte
  split
  · next hnonneg =>
    have hnone : bytes[index.toNat]? = none := List.getElem?_eq_none_iff.2 (by unfold inBuffer at h; omega)
    rw [hnone]
  · rfl

theorem bufferByte_eq_error {bytes : List Byte} {index : Int} {r : Fault} :
    bufferByte bytes index = .error r ↔ ¬inBuffer bytes index ∧ r = .addressingError index := by
  by_cases h : inBuffer bytes index
  · simp [bufferByte_of_inBuffer, h]
  · simp [bufferByte_of_not_inBuffer, h, eq_comm]

theorem exists_bufferByte_eq_ok {bytes : List Byte} {index : Int} :
    (∃ b, bufferByte bytes index = .ok b) ↔ inBuffer bytes index := by
  by_cases h : inBuffer bytes index
  · simp [bufferByte_of_inBuffer, h]
  · simp [bufferByte_of_not_inBuffer, h]

/-- AddressingError is raised where reading ends, and nowhere else (R381). -/
theorem execute_eq_addressingError {src : FetchSource} {s : State} {index : Int} :
    execute src s = .fault (.addressingError index) ↔ decodeFrom (fetchByte src s) = .error (.addressingError index) := by
  refine ⟨fun h => ?_, execute_of_decodeFrom_error⟩
  cases hdecode : decodeFrom (fetchByte src s) with
  | ok i =>
    rw [← outcome_eq_fault, (execute_decoded hdecode).1] at h
    exact absurd h (exec_ne_addressingError i _ index)
  | error r =>
    cases (execute_of_decodeFrom_error hdecode).symm.trans h
    rfl

/-- In `HostBuffer` the index is that of the first needed byte outside the buffer (R141, R381). -/
theorem execute_hostBuffer_eq_addressingError {bytes : List Byte} {start index : Int} {s : State} :
    execute (.hostBuffer bytes start) s = .fault (.addressingError index) ↔
      ∃ k : Nat, index = start + k ∧ ¬inBuffer bytes (start + k) ∧ (∀ j < k, inBuffer bytes (start + (j : Nat))) ∧
        (k = 0 ∨ k < opcodeLength (bytes.getD start.toNat 0)) := by
  rw [execute_eq_addressingError, decodeFrom_eq_error]
  refine exists_congr fun k => ?_
  simp only [fetchByte, bufferByte_eq_error, exists_bufferByte_eq_ok, Fault.addressingError.injEq]
  rw [and_comm (a := ¬_), and_assoc]
  refine and_congr_right fun _ => and_congr_right fun _ => and_congr_right fun hbefore => ?_
  refine or_congr_right' fun hk => ?_
  rw [bufferByte_of_inBuffer (hbefore 0 (Nat.pos_of_ne_zero hk))]
  simp

/-! ## The next pc (R145) -/

/-- A conditional transfer: the target of its taken branch, and otherwise the next instruction. -/
theorem pc_of_whenTaken {cc : Cond} {s t : State} {r : Result} {x : Word} {k : Nat}
    (h : (if condHolds cc s.f then r else .next (s.advance k)) = .next t) (htaken : ∀ u, r = .next u → u.pc = x) :
    t.pc = (whenTaken cc s x).getD (s.pcAfter k) := by
  rw [condHolds_eq] at h
  unfold whenTaken
  split at h
  · next hcc =>
    rw [if_pos hcc]
    exact htaken t h
  · next hcc =>
    rw [if_neg hcc]
    cases h
    rfl

/-- pc after the rule of any instruction. -/
theorem exec_pc {i : Instr} {s t : State} (h : exec i s = .next t) :
    t.pc = (pcWritten i s).getD (s.pcAfter (opcodeLength ((encode i).headD 0))) := by
  obtain ⟨r, hr, ht⟩ := runsAs_of_next h
  cases hr
  case raiseUnimplemented => cases ht
  case jumpIf hclass | jumpRelativeIf hclass | callIf hclass | returnIf hclass =>
    rw [hclass.target, hclass.length]
    refine pc_of_whenTaken ht ?_
    rintro _ ⟨⟩
    rfl
  case aluA op v k hclass =>
    rw [hclass.target, hclass.length]
    cases ht
    by_cases hop : op = .cp <;> simp [hop, State.pcAfter]
  case jumpTo hclass | jumpRelative hclass | callTo hclass | returnTo hclass | returnFromInterrupt hclass =>
    rw [hclass.target]
    cases ht
    rfl
  all_goals
    rename_i hclass
    rw [hclass.target, hclass.length]
    cases ht
    simp [State.pcAfter]

/-! ## The cycle count (R146, R414) -/

/-- The counts of R146. -/
def stepCounts : List Nat := [4, 8, 12, 16, 20, 24]

/-- The opcodes of the conditional instructions with their conditions (R106). -/
def opcodeCondition : Byte → Option Cond
  | 0x20 | 0xC0 | 0xC2 | 0xC4 => some .nz
  | 0x28 | 0xC8 | 0xCA | 0xCC => some .z
  | 0x30 | 0xD0 | 0xD2 | 0xD4 => some .nc
  | 0x38 | 0xD8 | 0xDA | 0xDC => some .c
  | _ => none

/-- The condition of an instruction is its opcode's. -/
theorem conditionOf_eq (i : Instr) : conditionOf i = opcodeCondition ((encode i).headD 0) := by
  cases i <;> rfl

/-- The table of R414 has two counts, the greater one first, at the conditional opcodes, and none at the thirteen and at 0xCB. -/
def cycleEntryAgrees (op : Byte) : Bool :=
  match primaryCycles op, opcodeCondition op with
  | .always n, none => n ∈ stepCounts
  | .branch taken notTaken, some cc =>
    condOf (fieldY op) = cc ∧ taken ∈ stepCounts ∧ notTaken ∈ stepCounts ∧ notTaken < taken
  | .none, none => op = 0xCB ∨ op ∈ unimplementedOpcodes
  | _, _ => false

theorem cycleEntryAgrees_all : ∀ op, cycleEntryAgrees op = true := by decide

theorem extendedCycles_mem : ∀ op, extendedCycles op ∈ stepCounts := by decide

theorem cycles_of_headD {i : Instr} {op : Byte} (h : (encode i).headD 0 = op) (hop : op ≠ 0xCB) (s : State) :
    cycles i s = (primaryCycles op).count (condHolds (condOf (fieldY op)) s.f) := by
  subst h
  exact if_neg hop

/-- The count of an instruction in every state: one count, or one for each side of its condition. -/
theorem cycles_cases {i : Instr} (hi : i ∉ unimplementedRows.map Prod.fst) :
    (conditionOf i = none ∧ ∃ n ∈ stepCounts, ∀ s, cycles i s = n) ∨
      ∃ cc, conditionOf i = some cc ∧ ∃ taken ∈ stepCounts, ∃ notTaken ∈ stepCounts, notTaken < taken ∧
        ∀ s, cycles i s = if condition cc s then taken else notTaken := by
  rw [mem_unimplementedRows_iff] at hi
  rw [conditionOf_eq]
  by_cases hextended : (encode i).headD 0 = 0xCB
  · exact .inl ⟨by rw [hextended]; rfl, _, extendedCycles_mem _, fun s => if_pos hextended⟩
  · have hcount := cycles_of_headD rfl hextended
    have hagrees := cycleEntryAgrees_all ((encode i).headD 0)
    generalize (encode i).headD 0 = op at *
    unfold cycleEntryAgrees at hagrees
    split at hagrees
    · next n hentry hcc =>
      exact .inl ⟨hcc, n, of_decide_eq_true hagrees, fun s => by rw [hcount, hentry]; rfl⟩
    · next taken notTaken cc hentry hcc =>
      obtain ⟨hfield, htaken, hnot, hlt⟩ := of_decide_eq_true hagrees
      exact .inr ⟨cc, hcc, taken, htaken, notTaken, hnot, hlt, fun s => by rw [hcount, hentry, hfield, condHolds_eq]; rfl⟩
    · exact absurd (of_decide_eq_true hagrees) (not_or_intro hextended hi)
    · cases hagrees

/-! ## The statements -/

/-- Settles O10: the byte at pc tells whether the decoded instruction is one of the thirteen, and every other one completes. -/
theorem onlyUnimplementedOpcodesStop : Obligations.OnlyUnimplementedOpcodesStop := by
  intro s
  have h0 := fetchByte_closedMemory_zero s
  constructor
  · intro hop
    obtain ⟨⟨i, op⟩, hrow, rfl⟩ := List.mem_map.1 hop
    rw [step, execute_unimplemented hrow h0]
    rfl
  · intro hop
    obtain ⟨i, hdecode, hstep⟩ := step_decoded s
    rw [← headD_encode hdecode h0, ← mem_unimplementedRows_iff] at hop
    rw [safeStep, hstep]
    exact exec_completes _ hop

/-- Settles O58: what a rule writes to pc is its class's target, and without one pc is advanced by its class's length. -/
theorem nextPc : Obligations.NextPc := by
  intro i s t h
  rw [exec_pc h, pcAfter_eq]
  cases pcWritten i s <;> rfl

/-- Settles O8: the opcode is byte 0 of either source. -/
theorem unimplementedOpcodesFault : Obligations.UnimplementedOpcodesFault := by
  intro i op s hrow
  obtain ⟨hcode, -, hexec⟩ := encode_exec_of_mem_unimplementedRows hrow
  refine ⟨hcode, hexec s, ?_, fun before => execute_unimplemented hrow ?_⟩
  · rintro rfl
    exact execute_unimplemented hrow (fetchByte_closedMemory_zero s)
  · rw [fetchByte, bufferByte_of_inBuffer (by simp [inBuffer])]
    simp

/-- Settles O9: no rule writes the parameters. -/
theorem everyOtherInstructionCompletes : Obligations.EveryOtherInstructionCompletes := by
  intro i s hi
  obtain ⟨t, ht⟩ := exec_completes s hi
  obtain ⟨-, -, hparams⟩ := exec_interrupts ht
  exact ⟨t, ht, hparams⟩

/-- Settles O12: the rule runs in the state after the edge, for each of the three values of `pending`. -/
theorem pendingEdgeApplied : Obligations.PendingEdgeApplied := by
  intro src s i hdecode hi
  rw [(execute_decoded hdecode).1, beforeRule, if_neg (mt (isUnimplemented_iff i).1 hi), State.applyPendingEdge]
  refine ⟨?_, ?_, ?_⟩ <;> intro hpending <;> rw [hpending]

/-- Settles O14: reading ends at the first needed byte outside the buffer, and no rule raises AddressingError. -/
theorem hostBufferAddressingError : Obligations.HostBufferAddressingError := by
  intro bytes start s here length
  refine ⟨fun h0 => ?_, fun h0 hlength h1 => ?_, fun h0 h1 hlength h2 => ?_, fun h0 h1 h2 index hfault => ?_⟩
  · exact execute_hostBuffer_eq_addressingError.2 ⟨0, by simp, h0, nofun, .inl rfl⟩
  · refine execute_hostBuffer_eq_addressingError.2 ⟨1, rfl, h1, fun j hj => ?_, .inr hlength⟩
    rwa [Nat.lt_one_iff.1 hj]
  · refine execute_hostBuffer_eq_addressingError.2 ⟨2, rfl, h2, fun j hj => ?_, .inr hlength.ge⟩
    obtain rfl | rfl : j = 0 ∨ j = 1 := by omega
    · exact h0
    · exact h1
  · obtain ⟨k, -, hmissing, -, hneeded⟩ := execute_hostBuffer_eq_addressingError.1 hfault
    change k = 0 ∨ k < length at hneeded
    have hle : length ≤ 3 := opcodeLength_le _
    obtain rfl | rfl | rfl : k = 0 ∨ k = 1 ∨ k = 2 := by omega
    · exact hmissing h0
    · exact hmissing (h1 (by omega))
    · exact hmissing (h2 (by omega))

/-- Settles O15: the instruction in memory is read from the buffer too, since its bytes are all that is read. -/
theorem hostBufferMatchesMemory : Obligations.HostBufferMatchesMemory := by
  intro bytes start s hsame
  obtain ⟨i, hmemory⟩ := closedMemory_decodes s
  obtain ⟨hwf, hread⟩ := decodeFrom_eq_ok.1 hmemory
  have hbuffer : decodeFrom (fetchByte (.hostBuffer bytes start) s) = .ok i := by
    refine decodeFrom_eq_ok.2 ⟨hwf, fun k b hk => ?_⟩
    obtain ⟨hlt, -⟩ := List.getElem?_eq_some_iff.1 hk
    rw [length_encode_of_fetch hmemory (fetchByte_closedMemory_zero s)] at hlt
    exact (hsame k hlt).trans (hread k b hk)
  exact execute_congr (hbuffer.trans hmemory.symm)

/-- Settles O59, by the entry of the cycle table. -/
theorem cycleCounts : Obligations.CycleCounts := by
  intro i s s' hi
  obtain ⟨hnone, n, hn, hcount⟩ | ⟨cc, hsome, taken, htaken, notTaken, hnot, hlt, hcount⟩ := cycles_cases hi
  · rw [hcount, hcount, hnone]
    exact ⟨hn, fun _ => rfl, nofun⟩
  · rw [hcount, hcount, hsome]
    refine ⟨?_, nofun, ?_⟩
    · split
      · exact htaken
      · exact hnot
    · rintro _ ⟨⟩ hs hs'
      simpa [hs, hs'] using hlt

/-- Settles O1: the source of a step gives the three bytes that `decode` is asked about. -/
theorem stepRunsDecodedInstruction : Obligations.StepRunsDecodedInstruction := by
  intro s i rest h
  obtain ⟨hfrom, -⟩ := decode_eq_ok.1 h
  have hdecode : decodeFrom (fetchByte .closedMemory s) = .ok i := decodeFrom_mono hfrom fun k b hk => by
    rw [byteAt_eq_ok] at hk
    rcases k with _ | _ | _ | k <;> simp_all [fetchByte]
  obtain ⟨houtcome, hok⟩ := execute_decoded hdecode
  have hstep : step s = exec i (beforeRule i s) := houtcome
  refine ⟨fun hi => ?_, fun hi => ?_, fun t => ?_⟩
  · rw [hstep, beforeRule_unimplemented s hi]
  · rw [hstep, beforeRule_other s hi]
  · rw [hstep, hok, eq_self, and_true]

/-- Settles O16, by the meanings of the three instructions. -/
theorem systemInstructions : Obligations.SystemInstructions := fun s =>
  ⟨⟨rfl, rfl, nop_spec s⟩, ⟨rfl, rfl, schedule_spec .pendingEnable s⟩, ⟨rfl, rfl, schedule_spec .pendingDisable s⟩⟩

end Sys2Proof.Machine
end

section
/-! The loads (41_loads.md): the rows of each form as bytes, cycle count and shared meaning, and from that the statements of R170 to R192. -/

namespace Sys2Proof.Machine

/-! ## Forms as bytes and meanings -/

/-- An instruction without a condition, from its bytes, the entry of its opcode in the cycle table and its meaning. The entry
rules out 0xCB, which has no count of its own. -/
theorem runsAs_of_always {i : Instr} {op : Byte} {rest : List Byte} {n : Nat} {s : State} {p : State → Prop}
    (hcode : encode i = op :: rest) (hentry : primaryCycles op = .always n) (hexec : completes (exec i s) p) :
    runsAs i (op :: rest) n s p := by
  refine ⟨hcode, cycles_always hcode ?_ hentry, hexec⟩
  rintro rfl
  cases hentry

/-- R115, where both operands (HL) is HALT. -/
theorem encode_ldForm (o o' : Operand8) : encode (ldForm o o') = [opByte 1 (operandCode o) (operandCode o')] := by
  cases o with
  | reg r =>
    cases o' with
    | reg r' => cases r <;> cases r' <;> rfl
    | atHl => cases r <;> rfl
  | atHl =>
    cases o' with
    | reg r' => cases r' <;> rfl
    | atHl => rfl

theorem encode_ldImmForm (o : Operand8) (n : Byte) : encode (ldImmForm o n) = [opByte 0 (operandCode o) 6, n] := by
  cases o with
  | reg r => cases r <;> rfl
  | atHl => rfl

theorem encode_ldPairForm (rr : Reg16) (nn : Word) :
    encode (ldPairForm rr nn) = [opByte 0 (2 * reg16Code rr) 1, loByte nn, hiByte nn] := by cases rr <;> rfl

theorem exec_ldForm_reg_reg (r r' : Reg8) (s : State) : exec (ldForm (.reg r) (.reg r')) s = ldRegReg r r' s := by
  cases r <;> cases r' <;> rfl

theorem exec_ldForm_reg_atHl (r : Reg8) (s : State) : exec (ldForm (.reg r) .atHl) s = ldRegMem r (s.reg16 .hl) 1 s := by
  cases r <;> rfl

theorem exec_ldForm_atHl_reg (r : Reg8) (s : State) : exec (ldForm .atHl (.reg r)) s = ldMem (s.reg16 .hl) (s.reg8 r) 1 s := by
  cases r <;> rfl

theorem exec_ldImmForm_reg (r : Reg8) (n : Byte) (s : State) : exec (ldImmForm (.reg r) n) s = ldRegImm r n s := by cases r <;> rfl

theorem exec_ldPairForm (rr : Reg16) (nn : Word) (s : State) : exec (ldPairForm rr nn) s = ldPairImm rr nn s := by cases rr <;> rfl

/-! ## Counts of the forms (R414) -/

theorem primaryCycles_ldRegReg (r r' : Reg8) : primaryCycles (opByte 1 (reg8Code r) (reg8Code r')) = .always 4 := by
  cases r <;> cases r' <;> rfl

theorem primaryCycles_ldRegMem (r : Reg8) : primaryCycles (opByte 1 (reg8Code r) 6) = .always 8 := by cases r <;> rfl

theorem primaryCycles_ldMemReg (r : Reg8) : primaryCycles (opByte 1 6 (reg8Code r)) = .always 8 := by cases r <;> rfl

theorem primaryCycles_ldRegImm (r : Reg8) : primaryCycles (opByte 0 (reg8Code r) 6) = .always 8 := by cases r <;> rfl

theorem primaryCycles_ldPairImm (rr : Reg16) : primaryCycles (opByte 0 (2 * reg16Code rr) 1) = .always 12 := by cases rr <;> rfl

/-! ## HL moved, as a number (R185 to R188, R280) -/

theorem toNat_of_moved {x y delta : Word} {k : Nat} (h : y = x + delta) (hdelta : delta.toNat = k) :
    y.toNat = (x.toNat + k) % 65536 := by
  rw [h, BitVec.toNat_add, hdelta]

theorem toNat_one : (1 : Word).toNat = 1 := rfl

theorem toNat_neg_one : (-1 : Word).toNat = 65535 := rfl

/-! ## LD HL,SP+e (R192) -/

/-- LD HL,SP+e with its value and flags as the numbers of R278. -/
theorem ldHlSpE_spec (n : Byte) (s : State) :
    completes (exec (.ldHlSpE (displacement n)) s) fun t => ((t.reg16 .hl).toNat : Int) = (s.sp.toNat + displacement n) % 65536 ∧
      offsetFlags s.sp n s t ∧ sameRegsBut [.h, .l] s t ∧ sameControl s t ∧ sameMemoryBut [] s t ∧ pcAdvanced 2 s t := by
  have hexec : exec (.ldHlSpE (displacement n)) s = ldHlFromSp n s := congrArg (ldHlFromSp · s) (dispByte_displacement n)
  obtain ⟨hhalf, hcarry⟩ := addSpE_numbers s.sp n
  rw [hexec]
  refine completes_mono (ldHlFromSp_spec n s) fun t ⟨hvalue, hflags, hrest⟩ => ⟨?_, ?_, hrest⟩
  · rw [hvalue, addSpEValue_toNat]
  · rwa [hhalf, hcarry] at hflags

/-! ## The statements -/

namespace Loads

/-- Settles O17, by the one meaning of the 49 rows. -/
theorem ldRegReg : Obligations.LdRegReg := by
  intro r r' s
  refine runsAs_of_always (encode_ldForm (.reg r) (.reg r')) (primaryCycles_ldRegReg r r') ?_
  rw [exec_ldForm_reg_reg]
  exact ldRegReg_spec r r' s

/-- Settles O18: a row for each register, and 0x36 for (HL). -/
theorem ldImmediate : Obligations.LdImmediate := by
  intro n s
  refine ⟨fun r => runsAs_of_always (encode_ldImmForm (.reg r) n) (primaryCycles_ldRegImm r) ?_,
    runsAs_of_always rfl rfl (ldMem_spec _ n 2 s)⟩
  rw [exec_ldImmForm_reg]
  exact ldRegImm_spec r n s

/-- Settles O19: the address is formed in the state before the write. -/
theorem ldRegMem : Obligations.LdRegMem := by
  intro r s
  refine runsAs_of_always (encode_ldForm (.reg r) .atHl) (primaryCycles_ldRegMem r) ?_
  rw [exec_ldForm_reg_atHl]
  exact ldRegMem_spec r _ 1 s

/-- Settles O20, for H and L as for the others: a store leaves every register. -/
theorem ldMemReg : Obligations.LdMemReg := by
  intro r s
  refine runsAs_of_always (encode_ldForm .atHl (.reg r)) (primaryCycles_ldMemReg r) ?_
  rw [exec_ldForm_atHl_reg]
  exact ldMem_spec _ _ 1 s

/-- Settles O25: the two bytes of a pair, and sp whole. -/
theorem ldPairImm : Obligations.LdPairImm := by
  intro rr nn s
  refine runsAs_of_always (encode_ldPairForm rr nn) (primaryCycles_ldPairImm rr) ?_
  rw [exec_ldPairForm]
  exact ldPairImm_spec rr nn s

/-- Settles O21: five addresses of one meaning, those of the I/O page written as 0xFF and the byte. -/
theorem ldAFromAddress : Obligations.LdAFromAddress := by
  intro n nn s
  rw [← ioAddress_eq, ← ioAddress_eq]
  have loads {x : Word} {k : Nat} : completes (Machine.ldRegMem .a x k s) (loaded .a (s.read x) k s) := ldRegMem_spec .a x k s
  exact ⟨runsAs_of_always rfl rfl loads, runsAs_of_always rfl rfl loads, runsAs_of_always rfl rfl loads,
    runsAs_of_always rfl rfl loads, runsAs_of_always rfl rfl loads⟩

/-- Settles O22: the same five addresses, stored to. -/
theorem ldAToAddress : Obligations.LdAToAddress := by
  intro n nn s
  rw [← ioAddress_eq, ← ioAddress_eq]
  have stores {x : Word} {k : Nat} : completes (ldMem x s.a k s) (stored x s.a k s) := ldMem_spec x s.a k s
  exact ⟨runsAs_of_always rfl rfl stores, runsAs_of_always rfl rfl stores, runsAs_of_always rfl rfl stores,
    runsAs_of_always rfl rfl stores, runsAs_of_always rfl rfl stores⟩

/-- Settles O23: HL moves by 1, or by -1, which is 65535 modulo 65536. -/
theorem autoIndexLoads : Obligations.AutoIndexLoads := by
  intro s
  refine ⟨runsAs_of_always rfl rfl ?_, runsAs_of_always rfl rfl ?_⟩
  · exact completes_mono (ldAHlMove_spec 1 s) fun _ ⟨ha, hhl, hrest⟩ => ⟨ha, toNat_of_moved hhl toNat_one, hrest⟩
  · exact completes_mono (ldAHlMove_spec (-1) s) fun _ ⟨ha, hhl, hrest⟩ => ⟨ha, toNat_of_moved hhl toNat_neg_one, hrest⟩

/-- Settles O24: HL moves as in the loads. -/
theorem autoIndexStores : Obligations.AutoIndexStores := by
  intro s
  refine ⟨runsAs_of_always rfl rfl ?_, runsAs_of_always rfl rfl ?_⟩
  · exact completes_mono (ldHlMoveA_spec 1 s) fun _ ⟨hbyte, hhl, hrest⟩ => ⟨hbyte, toNat_of_moved hhl toNat_one, hrest⟩
  · exact completes_mono (ldHlMoveA_spec (-1) s) fun _ ⟨hbyte, hhl, hrest⟩ => ⟨hbyte, toNat_of_moved hhl toNat_neg_one, hrest⟩

/-- Settles O26: the displacement of LD HL,SP+e is encoded in the byte it was read from. -/
theorem spLoads : Obligations.SpLoads := fun nn n s =>
  ⟨runsAs_of_always rfl rfl (ldMemSp_spec nn s), runsAs_of_always rfl rfl (ldSpFromHl_spec s),
    runsAs_of_always (congrArg ([0xF8, ·]) (dispByte_displacement n)) rfl (ldHlSpE_spec n s)⟩

end Loads

end Sys2Proof.Machine
end

section
/-! Control (42_control.md): the conditional forms and RST as bytes, cycle counts and shared meanings, and from that the statements of R220 to R230. -/

namespace Sys2Proof.Machine

/-! ## Forms as bytes and meanings -/

/-- A conditional instruction, from its bytes, its opcode's two counts and condition, and its meaning. The two counts rule out 0xCB. -/
theorem runsAs_of_branch {i : Instr} {op : Byte} {rest : List Byte} {cc : Cond} {taken notTaken : Nat} {s : State} {p : State → Prop}
    (hcode : encode i = op :: rest) (hentry : primaryCycles op = .branch taken notTaken) (hcc : condOf (fieldY op) = cc)
    (hexec : completes (exec i s) p) : runsAs i (op :: rest) (if condition cc s then taken else notTaken) s p := by
  refine ⟨hcode, cycles_branch hcode ?_ hentry hcc, hexec⟩
  rintro rfl
  cases hentry

theorem encode_jpForm (cc : Cond) (nn : Word) : encode (jpForm cc nn) = [opByte 3 (condCode cc) 2, loByte nn, hiByte nn] := by
  cases cc <;> rfl

theorem encode_jrForm (cc : Cond) (n : Byte) : encode (jrForm cc (displacement n)) = [opByte 0 (4 + condCode cc) 0, n] := by
  have hcode (e : Int) : encode (jrForm cc e) = [opByte 0 (4 + condCode cc) 0, dispByte e] := by cases cc <;> rfl
  rw [hcode, dispByte_displacement]

theorem encode_callForm (cc : Cond) (nn : Word) : encode (callForm cc nn) = [opByte 3 (condCode cc) 4, loByte nn, hiByte nn] := by
  cases cc <;> rfl

theorem encode_retForm (cc : Cond) : encode (retForm cc) = [opByte 3 (condCode cc) 0] := by cases cc <;> rfl

theorem encode_rstForm (y : Fin 8) : encode (rstForm y) = [opByte 3 y.val 7] := by fin_cases y <;> rfl

theorem exec_jpForm (cc : Cond) (nn : Word) (s : State) : exec (jpForm cc nn) s = jumpIf cc nn s := by cases cc <;> rfl

theorem exec_jrForm (cc : Cond) (e : Int) (s : State) : exec (jrForm cc e) s = jumpRelativeIf cc e s := by cases cc <;> rfl

theorem exec_callForm (cc : Cond) (nn : Word) (s : State) : exec (callForm cc nn) s = callIf cc nn s := by cases cc <;> rfl

theorem exec_retForm (cc : Cond) (s : State) : exec (retForm cc) s = returnIf cc s := by cases cc <;> rfl

theorem exec_rstForm (y : Fin 8) (s : State) : exec (rstForm y) s = callTo (rstTarget y) 1 s := by fin_cases y <;> rfl

theorem rstTarget_toNat (y : Fin 8) : (rstTarget y).toNat = 8 * y.val := by
  revert y
  decide

/-! ## Counts of the forms (R414), and the condition in y[1:0] of their opcodes (R106) -/

theorem primaryCycles_jpForm (cc : Cond) : primaryCycles (opByte 3 (condCode cc) 2) = .branch 16 12 := by cases cc <;> rfl

theorem primaryCycles_jrForm (cc : Cond) : primaryCycles (opByte 0 (4 + condCode cc) 0) = .branch 12 8 := by cases cc <;> rfl

theorem primaryCycles_callForm (cc : Cond) : primaryCycles (opByte 3 (condCode cc) 4) = .branch 24 12 := by cases cc <;> rfl

theorem primaryCycles_retForm (cc : Cond) : primaryCycles (opByte 3 (condCode cc) 0) = .branch 20 8 := by cases cc <;> rfl

theorem primaryCycles_rstForm (y : Fin 8) : primaryCycles (opByte 3 y.val 7) = .always 16 := by fin_cases y <;> rfl

theorem condOf_fieldY_jrForm (cc : Cond) : condOf (fieldY (opByte 0 (4 + condCode cc) 0)) = cc := by cases cc <;> rfl

/-- JP, CALL and RET have the condition in the same place. -/
theorem condOf_fieldY_opByte3 (cc : Cond) {z : Nat} (hz : z < 8) : condOf (fieldY (opByte 3 (condCode cc) z)) = cc := by
  cases cc <;> revert z <;> decide

/-! ## Both sides of a condition -/

/-- A conditional property, its taken side replaced by one that follows from it. -/
theorem ite_of_taken {taken p p' q : Prop} [Decidable taken] (hp : p → p') (h : if taken then p else q) : if taken then p' else q := by
  by_cases htaken : taken
  · rw [if_pos htaken] at h ⊢
    exact hp h
  · rwa [if_neg htaken] at h ⊢

/-! ## The statements -/

namespace Control

/-- Settles O27: a jump, on each side of the condition. -/
theorem jumpAbsolute : Obligations.JumpAbsolute := by
  intro nn cc s
  refine ⟨runsAs_of_always rfl rfl (jumpTo_spec nn s),
    runsAs_of_branch (encode_jpForm cc nn) (primaryCycles_jpForm cc) (condOf_fieldY_opByte3 cc (by decide)) ?_,
    runsAs_of_always rfl rfl (jumpTo_spec s.hl s)⟩
  rw [exec_jpForm]
  exact jumpIf_spec cc nn s

/-- Settles O28: the displacement is encoded in the byte it was read from. -/
theorem jumpRelative : Obligations.JumpRelative := by
  intro n cc s
  refine ⟨runsAs_of_always (congrArg ([0x18, ·]) (dispByte_displacement n)) rfl (jumpRelative_spec _ s),
    runsAs_of_branch (encode_jrForm cc n) (primaryCycles_jrForm cc) (condOf_fieldY_jrForm cc) ?_⟩
  rw [exec_jrForm]
  exact jumpRelativeIf_spec cc _ s

/-- Settles O29: one meaning with three targets, the word pushed being the address after the instruction. -/
theorem callsAndRst : Obligations.CallsAndRst := by
  intro nn cc y s called
  have hcalled {x : Word} {k : Nat} {t : State} (h : t.pc = x ∧ pushedWord (s.pcAfter k) s t ∧ sameRegsBut [] s t ∧ t.f = s.f ∧
      sameInterrupts s t) : called x.toNat k t := by
    rw [pcAfter_eq] at h
    simpa [called] using h
  refine ⟨runsAs_of_always rfl rfl (completes_mono (callTo_spec nn 3 s) fun _ => hcalled),
    runsAs_of_branch (encode_callForm cc nn) (primaryCycles_callForm cc) (condOf_fieldY_opByte3 cc (by decide)) ?_,
    runsAs_of_always (encode_rstForm y) (primaryCycles_rstForm y) ?_⟩
  · rw [exec_callForm]
    exact completes_mono (callIf_spec cc nn s) fun _ => ite_of_taken hcalled
  · rw [exec_rstForm, ← rstTarget_toNat]
    exact completes_mono (callTo_spec _ 1 s) fun _ => hcalled

/-- Settles O30: RET keeps IME with the rest of the interrupt state, and RETI sets it. -/
theorem returns : Obligations.Returns := by
  intro cc s returned
  have hreturned {t : State} : (t.pc = stackTop s ∧ poppedWord s t ∧ sameRegsBut [] s t ∧ t.f = s.f ∧ sameInterrupts s t) →
      returned t ∧ t.ime = s.ime :=
    fun ⟨hpc, hpopped, hregs, hf, hime, hpending, hparams⟩ => ⟨⟨hpc, hpopped, hregs, hf, hparams, hpending⟩, hime⟩
  refine ⟨runsAs_of_always rfl rfl (completes_mono (returnTo_spec s) fun _ => hreturned),
    runsAs_of_branch (encode_retForm cc) (primaryCycles_retForm cc) (condOf_fieldY_opByte3 cc (by decide)) ?_,
    runsAs_of_always rfl rfl ?_⟩
  · rw [exec_retForm]
    exact completes_mono (returnIf_spec cc s) fun _ => ite_of_taken hreturned
  · exact completes_mono (returnFromInterrupt_spec s) fun _ ⟨hpc, hpopped, hregs, hf, hime, hpending, hparams⟩ =>
      ⟨⟨hpc, hpopped, hregs, hf, hparams, hpending⟩, hime⟩

end Control

end Sys2Proof.Machine
end

section
/-! Arithmetic (43_arithmetic.md): the forms as bytes, cycle counts and shared meanings, the results of those meanings as the numbers of the claims,
and from that the statements of R250 to R280. -/

namespace Sys2Proof.Machine

/-! ## Forms as bytes and meanings -/

theorem encode_aluForm (op : AluOp) (o : Operand8) : encode (aluForm op o) = [opByte 2 (aluOpCode op) (operandCode o)] := by
  cases o with
  | reg r => cases op <;> cases r <;> rfl
  | atHl => cases op <;> rfl

theorem encode_aluImmForm (op : AluOp) (n : Byte) : encode (aluImmForm op n) = [opByte 3 (aluOpCode op) 6, n] := by cases op <;> rfl

theorem encode_incForm (o : Operand8) : encode (incForm o) = [opByte 0 (operandCode o) 4] := by
  cases o with
  | reg r => cases r <;> rfl
  | atHl => rfl

theorem encode_decForm (o : Operand8) : encode (decForm o) = [opByte 0 (operandCode o) 5] := by
  cases o with
  | reg r => cases r <;> rfl
  | atHl => rfl

theorem encode_incPairForm (rr : Reg16) : encode (incPairForm rr) = [opByte 0 (2 * reg16Code rr) 3] := by cases rr <;> rfl

theorem encode_decPairForm (rr : Reg16) : encode (decPairForm rr) = [opByte 0 (2 * reg16Code rr + 1) 3] := by cases rr <;> rfl

theorem encode_addHlForm (rr : Reg16) : encode (addHlForm rr) = [opByte 0 (2 * reg16Code rr + 1) 1] := by cases rr <;> rfl

theorem exec_aluForm (op : AluOp) (o : Operand8) (s : State) : exec (aluForm op o) s = aluA op (s.operand o) 1 s := by
  cases o with
  | reg r => cases op <;> cases r <;> rfl
  | atHl => cases op <;> rfl

theorem exec_aluImmForm (op : AluOp) (n : Byte) (s : State) : exec (aluImmForm op n) s = aluA op n 2 s := by cases op <;> rfl

theorem exec_incForm (o : Operand8) (s : State) : exec (incForm o) s = incOperand o s := by
  cases o with
  | reg r => cases r <;> rfl
  | atHl => rfl

theorem exec_decForm (o : Operand8) (s : State) : exec (decForm o) s = decOperand o s := by
  cases o with
  | reg r => cases r <;> rfl
  | atHl => rfl

theorem exec_incPairForm (rr : Reg16) (s : State) : exec (incPairForm rr) s = movePair rr 1 s := by cases rr <;> rfl

theorem exec_decPairForm (rr : Reg16) (s : State) : exec (decPairForm rr) s = movePair rr (-1) s := by cases rr <;> rfl

theorem exec_addHlForm (rr : Reg16) (s : State) : exec (addHlForm rr) s = addToHl rr s := by cases rr <;> rfl

/-! ## Counts of the forms (R414) -/

theorem primaryCycles_aluForm (op : AluOp) (o : Operand8) :
    primaryCycles (opByte 2 (aluOpCode op) (operandCode o)) = .always (if o = .atHl then 8 else 4) := by
  cases o with
  | reg r => cases op <;> cases r <;> rfl
  | atHl => cases op <;> rfl

theorem primaryCycles_aluImmForm (op : AluOp) : primaryCycles (opByte 3 (aluOpCode op) 6) = .always 8 := by cases op <;> rfl

theorem primaryCycles_incForm (o : Operand8) : primaryCycles (opByte 0 (operandCode o) 4) = .always (if o = .atHl then 12 else 4) := by
  cases o with
  | reg r => cases r <;> rfl
  | atHl => rfl

theorem primaryCycles_decForm (o : Operand8) : primaryCycles (opByte 0 (operandCode o) 5) = .always (if o = .atHl then 12 else 4) := by
  cases o with
  | reg r => cases r <;> rfl
  | atHl => rfl

theorem primaryCycles_incPairForm (rr : Reg16) : primaryCycles (opByte 0 (2 * reg16Code rr) 3) = .always 8 := by cases rr <;> rfl

theorem primaryCycles_decPairForm (rr : Reg16) : primaryCycles (opByte 0 (2 * reg16Code rr + 1) 3) = .always 8 := by cases rr <;> rfl

theorem primaryCycles_addHlForm (rr : Reg16) : primaryCycles (opByte 0 (2 * reg16Code rr + 1) 1) = .always 8 := by cases rr <;> rfl

/-! ## The ALU rows (R107) -/

/-- A row of the ALU block on a register or (HL), by its meaning. -/
theorem runsAs_aluForm {op : AluOp} {o : Operand8} {s : State} {p : State → Prop} (h : completes (aluA op (s.operand o) 1 s) p) :
    runsAs (aluForm op o) [opByte 2 (aluOpCode op) (operandCode o)] (if o = .atHl then 8 else 4) s p :=
  runsAs_of_always (encode_aluForm op o) (primaryCycles_aluForm op o) (exec_aluForm op o s ▸ h)

/-- A row of the ALU block on an immediate, by its meaning. -/
theorem runsAs_aluImmForm {op : AluOp} {n : Byte} {s : State} {p : State → Prop} (h : completes (aluA op n 2 s) p) :
    runsAs (aluImmForm op n) [opByte 3 (aluOpCode op) 6, n] 8 s p :=
  runsAs_of_always (encode_aluImmForm op n) (primaryCycles_aluImmForm op) (exec_aluImmForm op n s ▸ h)

/-- An operation that is an addition writes the sum (R250). -/
theorem aluA_sumWritten {op : AluOp} {v : Byte} {cin : Bool} {s : State} (k : Nat) (hop : op ≠ .cp)
    (hsum : alu op s.a v (flagC s.f) = add8 s.a v cin) : completes (aluA op v k s) (sumWritten v cin.toNat k s) := by
  have hspec := aluA_spec op v k s
  rw [hsum, add8_numbers] at hspec
  exact completes_mono hspec fun t ⟨ha, hrest⟩ => ⟨ha.trans (if_neg hop), hrest⟩

/-- An operation that is a subtraction writes the difference, and CP the flags of it alone (R251, R264). -/
theorem aluA_differenceWritten {op : AluOp} {v : Byte} {cin : Bool} {s : State} (k : Nat)
    (hdifference : alu op s.a v (flagC s.f) = sub8 s.a v cin) :
    completes (aluA op v k s) (differenceWritten (decide (op = .cp)) v cin.toNat k s) := by
  have hspec := aluA_spec op v k s
  rw [hdifference, sub8_numbers] at hspec
  refine completes_mono hspec fun t ⟨ha, hrest⟩ => ⟨?_, hrest⟩
  by_cases hop : op = .cp <;> simp [ha, hop]

theorem aluA_add_spec (v : Byte) (k : Nat) (s : State) : completes (aluA .add v k s) (sumWritten v 0 k s) :=
  aluA_sumWritten (cin := false) k (by decide) rfl

theorem aluA_adc_spec (v : Byte) (k : Nat) (s : State) : completes (aluA .adc v k s) (sumWritten v (flagC s.f).toNat k s) :=
  aluA_sumWritten k (by decide) rfl

theorem aluA_sub_spec (v : Byte) (k : Nat) (s : State) : completes (aluA .sub v k s) (differenceWritten false v 0 k s) :=
  aluA_differenceWritten (cin := false) k rfl

theorem aluA_sbc_spec (v : Byte) (k : Nat) (s : State) :
    completes (aluA .sbc v k s) (differenceWritten false v (flagC s.f).toNat k s) :=
  aluA_differenceWritten k rfl

theorem aluA_cp_spec (v : Byte) (k : Nat) (s : State) : completes (aluA .cp v k s) (differenceWritten true v 0 k s) :=
  aluA_differenceWritten (cin := false) k rfl

/-! ## INC and DEC as numbers (R267 to R270) -/

theorem add8_one (v : Byte) :
    add8 v 1 false = { res := BitVec.ofNat 8 (v.toNat + 1), z := decide (v.toNat = 255), n := false,
                       h := decide (v.toNat % 16 = 15), c := decide (v.toNat = 255) } := by
  have hv := v.isLt
  have hone : (1 : Byte).toNat = 1 := rfl
  have hzero : false.toNat = 0 := rfl
  rw [add8_numbers, hone, hzero]
  congr 1 <;> rw [decide_eq_decide] <;> omega

theorem sub8_one (v : Byte) :
    sub8 v 1 false = { res := BitVec.ofNat 8 (v.toNat + 255), z := decide (v.toNat = 1), n := true,
                       h := decide (v.toNat % 16 = 0), c := decide (v.toNat = 0) } := by
  have hv := v.isLt
  have hone : (1 : Byte).toNat = 1 := rfl
  have hzero : false.toNat = 0 := rfl
  have hres : BitVec.ofNat 8 (v.toNat + 512 - (1 + 0)) = BitVec.ofNat 8 (v.toNat + 255) := by
    rw [← BitVec.toNat_inj, BitVec.toNat_ofNat, BitVec.toNat_ofNat]
    omega
  rw [sub8_numbers, hone, hzero, hres]
  congr 1 <;> rw [decide_eq_decide] <;> omega

/-! ## CPL, SCF and CCF as numbers (R272 to R274) -/

/-- The one's complement of a byte. -/
theorem complement_eq_ofNat (v : Byte) : 0xFF ^^^ v = BitVec.ofNat 8 (255 - v.toNat) := by
  have hv := v.isLt
  rw [show (0xFF : Byte) = BitVec.allOnes 8 from rfl, BitVec.allOnes_xor, ← BitVec.toNat_inj, BitVec.toNat_not, BitVec.toNat_ofNat]
  omega

/-- SCF and CCF leave A with the other registers. -/
theorem writeCarry_accumulated (c : Bool) (s : State) :
    completes (writeCarry c s) (accumulated s.a.toNat (flagZ s.f) false false c 1 s) := by
  have ha : s.a = BitVec.ofNat 8 s.a.toNat := by simp
  exact completes_mono (writeCarry_spec c s) fun t ⟨hflags, hregs, hrest⟩ =>
    ⟨(hregs .a List.not_mem_nil).trans ha, hflags, fun r _ => hregs r List.not_mem_nil, hrest⟩

/-! ## 16-bit sums (R275 to R280) -/

/-- A pair moved by a word that stands for `k`. -/
theorem add_eq_ofNat {delta : Word} {k : Nat} (v : Word) (hdelta : delta.toNat = k) : v + delta = BitVec.ofNat 16 (v.toNat + k) := by
  rw [← BitVec.toNat_inj, BitVec.toNat_add, BitVec.toNat_ofNat, hdelta]

/-- ADD SP,e with its value and flags as the numbers of R278. -/
theorem addSpE_spec (n : Byte) (s : State) :
    completes (exec (.addSpE (displacement n)) s) fun t => (t.sp.toNat : Int) = (s.sp.toNat + displacement n) % 65536 ∧
      offsetFlags s.sp n s t ∧ sameRegsBut [] s t ∧ sameInterrupts s t ∧ sameMemoryBut [] s t ∧ pcAdvanced 2 s t := by
  have hexec : exec (.addSpE (displacement n)) s = addToSp n s := congrArg (addToSp · s) (dispByte_displacement n)
  obtain ⟨hhalf, hcarry⟩ := addSpE_numbers s.sp n
  rw [hexec]
  refine completes_mono (addToSp_spec n s) fun t ⟨hvalue, hflags, hrest⟩ => ⟨?_, ?_, hrest⟩
  · rw [hvalue, addSpEValue_toNat]
  · rwa [hhalf, hcarry] at hflags

/-! ## DAA as numbers (R271) -/

/-- Whether DAA after an addition adds 0x60 to `a`, `c` being the carry. -/
def daaHigh (a : Nat) (c : Bool) : Bool := c || decide (0x99 < a)

/-- `a` as DAA leaves it after an addition with the half carry `h` and the carry `c`. -/
def daaUp (a : Nat) (h c : Bool) : Nat :=
  (a + (if daaHigh a c then 0x60 else 0) + (if h || decide (9 < a % 16) then 0x06 else 0)) % 256

/-- `a` as DAA leaves it after a subtraction. -/
def daaDown (a : Nat) (h c : Bool) : Nat := (a + 256 - (if c then 0x60 else 0) - (if h then 0x06 else 0)) % 256

/-- What DAA writes. -/
def daaWritten (s : State) : State → Prop :=
  let up := daaUp s.a.toNat (flagH s.f) (flagC s.f)
  let down := daaDown s.a.toNat (flagH s.f) (flagC s.f)
  if flagN s.f then accumulated down (decide (down = 0)) true false (flagC s.f) 1 s
  else accumulated up (decide (up = 0)) false false (daaHigh s.a.toNat (flagC s.f)) 1 s

/-- Integers that agree modulo 256 are the same byte. -/
theorem u8_eq_ofNat {v : Int} {n : Nat} (h : v % 256 = n % 256) : u8 v = BitVec.ofNat 8 n := by
  rw [← BitVec.toNat_inj, u8, BitVec.toNat_ofInt, BitVec.toNat_ofNat]
  omega

theorem daaAdjust_of_sub {a f : Byte} (hn : flagN f = true) :
    daaAdjust a f = (BitVec.ofNat 8 (daaDown a.toNat (flagH f) (flagC f)), flagC f) := by
  rw [daaAdjust, if_pos hn]
  refine congrArg (·, flagC f) (u8_eq_ofNat ?_)
  unfold daaDown
  split_ifs <;> omega

theorem daaAdjust_of_add {a f : Byte} (hn : flagN f = false) :
    daaAdjust a f = (BitVec.ofNat 8 (daaUp a.toNat (flagH f) (flagC f)), daaHigh a.toNat (flagC f)) := by
  have hhigh : (flagC f || decide ((a.toNat : Int) > 0x99)) = daaHigh a.toNat (flagC f) :=
    congrArg (flagC f || ·) (decide_eq_decide.2 (by omega))
  have hlow (v : Int) (hv : v % 16 = (a.toNat % 16 : Nat)) : decide (v % 16 > 0x09) = decide (9 < a.toNat % 16) :=
    decide_eq_decide.2 (by omega)
  rw [daaAdjust, if_neg (ne_true_of_eq_false hn), hhigh]
  refine congrArg (·, daaHigh a.toNat (flagC f)) (u8_eq_ofNat ?_)
  rw [hlow]
  · unfold daaUp
    split_ifs <;> omega
  · split_ifs <;> omega

/-- DAA, by what N says the operation before it was. -/
theorem daa_spec (s : State) : completes (exec .daa s) (daaWritten s) := by
  refine completes_mono (decimalAdjust_spec s) fun t hspec => ?_
  unfold daaWritten
  cases hn : flagN s.f with
  | true =>
    rw [daaAdjust_of_sub hn, hn, ofNat_eq_zero, daaDown, Nat.mod_mod] at hspec
    exact hspec
  | false =>
    rw [daaAdjust_of_add hn, hn, ofNat_eq_zero, daaUp, Nat.mod_mod] at hspec
    exact hspec

/-! ## DAA after BCD operations -/

/-- A number below 100 by its two digits. -/
theorem exists_digits (m : Fin 100) : ∃ x y, x < 10 ∧ y < 10 ∧ m.val = 10 * x + y ∧ bcd m.val = 16 * x + y :=
  ⟨m.val / 10, m.val % 10, by omega, by omega, by omega, rfl⟩

/-- The binary sum of two BCD numbers, adjusted: each nibble passes 9 exactly where the digits carry. -/
theorem daaUp_bcd (m k : Fin 100) :
    let sum := bcd m.val + bcd k.val
    let h := decide (15 < bcd m.val % 16 + bcd k.val % 16)
    let c := decide (255 < sum)
    daaUp (sum % 256) h c = bcd ((m.val + k.val) % 100) ∧ daaHigh (sum % 256) c = decide (100 ≤ m.val + k.val) := by
  obtain ⟨x, y, hx, hy, hm, hbm⟩ := exists_digits m
  obtain ⟨u, v, hu, hv, hk, hbk⟩ := exists_digits k
  have hcarry : (decide (255 < bcd m.val + bcd k.val) || decide (0x99 < (bcd m.val + bcd k.val) % 256)) =
      decide (100 ≤ m.val + k.val) := by
    rw [← Bool.decide_or, decide_eq_decide]
    omega
  have hhalf : (decide (15 < bcd m.val % 16 + bcd k.val % 16) || decide (9 < (bcd m.val + bcd k.val) % 256 % 16)) =
      decide (10 ≤ y + v) := by
    rw [← Bool.decide_or, decide_eq_decide]
    omega
  refine ⟨?_, hcarry⟩
  rw [daaUp, daaHigh, hcarry, hhalf]
  unfold bcd at *
  simp only [decide_eq_true_eq]
  split_ifs <;> omega

/-- The binary difference of two BCD numbers, adjusted: each nibble borrows exactly where the digits do. -/
theorem daaDown_bcd (m k : Fin 100) :
    let difference := bcd m.val + 512 - bcd k.val
    let h := decide (bcd m.val % 16 < bcd k.val % 16)
    let c := decide (bcd m.val < bcd k.val)
    daaDown (difference % 256) h c = bcd ((m.val + 100 - k.val) % 100) ∧ c = decide (m.val < k.val) := by
  obtain ⟨x, y, hx, hy, hm, hbm⟩ := exists_digits m
  obtain ⟨u, v, hu, hv, hk, hbk⟩ := exists_digits k
  have hborrow : decide (bcd m.val < bcd k.val) = decide (m.val < k.val) := by
    rw [decide_eq_decide]
    omega
  have hhalf : decide (bcd m.val % 16 < bcd k.val % 16) = decide (y < v) := by
    rw [decide_eq_decide]
    omega
  refine ⟨?_, hborrow⟩
  rw [daaDown, hborrow, hhalf]
  unfold bcd at *
  simp only [decide_eq_true_eq]
  split_ifs <;> omega

theorem toNat_bcd (m : Fin 100) : (BitVec.ofNat 8 (bcd m.val)).toNat = bcd m.val := by
  obtain ⟨x, y, hx, hy, -, hm⟩ := exists_digits m
  rw [BitVec.toNat_ofNat]
  omega

theorem daaUp_lt (a : Nat) (h c : Bool) : daaUp a h c < 256 := Nat.mod_lt _ (by decide)

theorem daaDown_lt (a : Nat) (h c : Bool) : daaDown a h c < 256 := Nat.mod_lt _ (by decide)

/-- A and C after DAA, where the operation before it was an addition. -/
theorem daaWritten_add {s t : State} (h : daaWritten s t) (hn : flagN s.f = false) :
    t.a.toNat = daaUp s.a.toNat (flagH s.f) (flagC s.f) ∧ flagC t.f = daaHigh s.a.toNat (flagC s.f) := by
  rw [daaWritten, if_neg (ne_true_of_eq_false hn)] at h
  obtain ⟨ha, ⟨-, -, -, hc, -⟩, -⟩ := h
  exact ⟨by rw [ha, BitVec.toNat_ofNat, Nat.mod_eq_of_lt (daaUp_lt ..)], hc⟩

/-- A and C after DAA, where the operation before it was a subtraction. -/
theorem daaWritten_sub {s t : State} (h : daaWritten s t) (hn : flagN s.f = true) :
    t.a.toNat = daaDown s.a.toNat (flagH s.f) (flagC s.f) ∧ flagC t.f = flagC s.f := by
  rw [daaWritten, if_pos hn] at h
  obtain ⟨ha, ⟨-, -, -, hc, -⟩, -⟩ := h
  exact ⟨by rw [ha, BitVec.toNat_ofNat, Nat.mod_eq_of_lt (daaDown_lt ..)], hc⟩

/-- DAA after the sum of two BCD bytes. -/
theorem daaWritten_sumWritten {m k : Fin 100} {v : Byte} {s t u : State} (hm : s.a.toNat = bcd m.val) (hk : v.toNat = bcd k.val)
    (ht : sumWritten v 0 1 s t) (hu : daaWritten t u) :
    u.a.toNat = bcd ((m.val + k.val) % 100) ∧ flagC u.f = decide (100 ≤ m.val + k.val) := by
  obtain ⟨ha, ⟨-, hn, hh, hc, -⟩, -⟩ := ht
  obtain ⟨hvalue, hcarry⟩ := daaWritten_add hu hn
  obtain ⟨hup, hhigh⟩ := daaUp_bcd m k
  rw [ha, BitVec.toNat_ofNat, hh, hc, hm, hk] at hvalue
  rw [ha, BitVec.toNat_ofNat, hc, hm, hk] at hcarry
  exact ⟨hvalue.trans hup, hcarry.trans hhigh⟩

/-- DAA after the difference of two BCD bytes. -/
theorem daaWritten_differenceWritten {m k : Fin 100} {v : Byte} {s t u : State} (hm : s.a.toNat = bcd m.val) (hk : v.toNat = bcd k.val)
    (ht : differenceWritten false v 0 1 s t) (hu : daaWritten t u) :
    u.a.toNat = bcd ((m.val + 100 - k.val) % 100) ∧ flagC u.f = decide (m.val < k.val) := by
  obtain ⟨ha, ⟨-, hn, hh, hc, -⟩, -⟩ := ht
  obtain ⟨hvalue, hcarry⟩ := daaWritten_sub hu hn
  obtain ⟨hdown, hborrow⟩ := daaDown_bcd m k
  rw [ha, if_neg Bool.false_ne_true, BitVec.toNat_ofNat, hh, hc, hm, hk] at hvalue
  rw [hc, hm, hk] at hcarry
  exact ⟨hvalue.trans hdown, hcarry.trans hborrow⟩

/-! ## The statements -/

namespace Arithmetic

/-- Settles O31: ADD and ADC are one sum, with the carry in and without it. -/
theorem addAdc : Obligations.AddAdc := fun _ n s =>
  ⟨runsAs_aluForm (aluA_add_spec _ 1 s), runsAs_aluImmForm (aluA_add_spec n 2 s), runsAs_aluForm (aluA_adc_spec _ 1 s),
    runsAs_aluImmForm (aluA_adc_spec n 2 s)⟩

/-- Settles O32: SUB, SBC and CP are one difference, which CP discards. -/
theorem subSbcCp : Obligations.SubSbcCp := fun _ n s =>
  ⟨runsAs_aluForm (aluA_sub_spec _ 1 s), runsAs_aluImmForm (aluA_sub_spec n 2 s), runsAs_aluForm (aluA_sbc_spec _ 1 s),
    runsAs_aluImmForm (aluA_sbc_spec n 2 s), runsAs_aluForm (aluA_cp_spec _ 1 s), runsAs_aluImmForm (aluA_cp_spec n 2 s)⟩

/-- Settles O33: INC and DEC are the sum and the difference with 1, their carry discarded. -/
theorem incDec : Obligations.IncDec := by
  intro o s
  have hinc := incOperand_spec o s
  have hdec := decOperand_spec o s
  rw [← exec_incForm, add8_one] at hinc
  rw [← exec_decForm, sub8_one] at hdec
  exact ⟨runsAs_of_always (encode_incForm o) (primaryCycles_incForm o) hinc,
    runsAs_of_always (encode_decForm o) (primaryCycles_decForm o) hdec⟩

/-- Settles O34, by the numbers of DAA on each side of N. -/
theorem daaAdjusts : Obligations.DaaAdjusts := fun s => runsAs_of_always rfl rfl (daa_spec s)

/-- Settles O35: DAA finds in H and C what the nibbles of the binary result have lost. -/
theorem daaAfterBcd : Obligations.DaaAfterBcd := by
  intro m k s start
  exact ⟨completes_mono (aluA_add_spec start.b 1 start) fun t ht =>
      completes_mono (daa_spec t) fun _ => daaWritten_sumWritten (toNat_bcd m) (toNat_bcd k) ht,
    completes_mono (aluA_sub_spec start.b 1 start) fun t ht =>
      completes_mono (daa_spec t) fun _ => daaWritten_differenceWritten (toNat_bcd m) (toNat_bcd k) ht⟩

/-- Settles O38: a step down is one of 65535 modulo 65536. -/
theorem incDecPair : Obligations.IncDecPair := by
  intro rr s
  have hinc := movePair_spec rr 1 s
  have hdec := movePair_spec rr (-1) s
  rw [← exec_incPairForm, add_eq_ofNat _ toNat_one] at hinc
  rw [← exec_decPairForm, add_eq_ofNat _ toNat_neg_one] at hdec
  exact ⟨runsAs_of_always (encode_incPairForm rr) (primaryCycles_incPairForm rr) hinc,
    runsAs_of_always (encode_decPairForm rr) (primaryCycles_decPairForm rr) hdec⟩

/-- Settles O39, by the numbers of the 16-bit sum. -/
theorem addHl : Obligations.AddHl := by
  intro rr s x y
  obtain ⟨hhalf, hcarry⟩ := addHl_numbers (s.reg16 .hl) (s.reg16 rr)
  refine runsAs_of_always (encode_addHlForm rr) (primaryCycles_addHlForm rr) ?_
  rw [exec_addHlForm]
  refine completes_mono (addToHl_spec rr s) fun t ⟨hvalue, hflags, hrest⟩ => ⟨?_, ?_, hrest⟩
  · rw [hvalue, BitVec.toNat_add]
  · rwa [hhalf, hcarry] at hflags

/-- Settles O36: CPL keeps Z and C, SCF keeps Z and A. -/
theorem cplScf : Obligations.CplScf := by
  intro s
  have hcpl := complementA_spec s
  rw [complement_eq_ofNat] at hcpl
  exact ⟨runsAs_of_always rfl rfl hcpl, runsAs_of_always rfl rfl (writeCarry_accumulated true s)⟩

/-- Settles O37: CCF is SCF with the carry complemented. -/
theorem ccfComplementsCarry : Obligations.CcfComplementsCarry := fun s =>
  runsAs_of_always rfl rfl (writeCarry_accumulated (!flagC s.f) s)

/-- Settles O40: the displacement is encoded in the byte it was read from. -/
theorem addSp : Obligations.AddSp := fun n s =>
  runsAs_of_always (congrArg ([0xE8, ·]) (dispByte_displacement n)) rfl (addSpE_spec n s)

end Arithmetic

end Sys2Proof.Machine
end

section
/-! Logic and bits (44_logic_bit.md): the forms of the 0xCB page as bytes, cycle counts and shared meanings, the results of those meanings as the
numbers of the claims, and from that the statements of R300 to R336. -/

namespace Sys2Proof.Machine

/-! ## Forms as bytes and meanings -/

theorem encode_rotForm (op : RotOp) (o : Operand8) : encode (rotForm op o) = [0xCB, opByte 0 (rotOpCode op) (operandCode o)] := by
  cases o with
  | reg r => cases op <;> cases r <;> rfl
  | atHl => cases op <;> rfl

theorem encode_bitForm (b : Fin 8) (o : Operand8) : encode (bitForm b o) = [0xCB, opByte 1 b.val (operandCode o)] := by
  cases o with
  | reg r => fin_cases b <;> cases r <;> rfl
  | atHl => fin_cases b <;> rfl

theorem encode_resForm (b : Fin 8) (o : Operand8) : encode (resForm b o) = [0xCB, opByte 2 b.val (operandCode o)] := by
  cases o with
  | reg r => fin_cases b <;> cases r <;> rfl
  | atHl => fin_cases b <;> rfl

theorem encode_setForm (b : Fin 8) (o : Operand8) : encode (setForm b o) = [0xCB, opByte 3 b.val (operandCode o)] := by
  cases o with
  | reg r => fin_cases b <;> cases r <;> rfl
  | atHl => fin_cases b <;> rfl

theorem exec_rotForm (op : RotOp) (o : Operand8) (s : State) : exec (rotForm op o) s = rotateOperand op o s := by
  cases o with
  | reg r => cases op <;> cases r <;> rfl
  | atHl => cases op <;> rfl

theorem exec_bitForm (b : Fin 8) (o : Operand8) (s : State) : exec (bitForm b o) s = testBit b o s := by
  cases o with
  | reg r => fin_cases b <;> cases r <;> rfl
  | atHl => fin_cases b <;> rfl

theorem exec_resForm (b : Fin 8) (o : Operand8) (s : State) : exec (resForm b o) s = resetBit b o s := by
  cases o with
  | reg r => fin_cases b <;> cases r <;> rfl
  | atHl => fin_cases b <;> rfl

theorem exec_setForm (b : Fin 8) (o : Operand8) (s : State) : exec (setForm b o) s = setBit b o s := by
  cases o with
  | reg r => fin_cases b <;> cases r <;> rfl
  | atHl => fin_cases b <;> rfl

/-! ## Counts of the 0xCB page (R414) -/

theorem rotOpCode_lt (op : RotOp) : rotOpCode op < 8 := by cases op <;> decide

theorem operandCode_lt (o : Operand8) : operandCode o < 8 := by
  cases o with
  | reg r => cases r <;> decide
  | atHl => decide

theorem operandCode_eq_six_iff (o : Operand8) : operandCode o = 6 ↔ o = .atHl := by
  cases o with
  | reg r => cases r <;> decide
  | atHl => decide

theorem opByte_toNat {x y z : Nat} (hx : x < 4) (hy : y < 8) (hz : z < 8) : (opByte x y z).toNat = 64 * x + 8 * y + z := by
  rw [opByte, BitVec.toNat_ofNat]
  omega

theorem fieldX_opByte {x y z : Nat} (hx : x < 4) (hy : y < 8) (hz : z < 8) : (fieldX (opByte x y z)).val = x := by
  rw [fieldX, opByte_toNat hx hy hz, Fin.val_ofNat]
  omega

theorem fieldZ_opByte {x y z : Nat} (hx : x < 4) (hy : y < 8) (hz : z < 8) : (fieldZ (opByte x y z)).val = z := by
  rw [fieldZ, opByte_toNat hx hy hz, Fin.val_ofNat]
  omega

/-- A count of the page is one of the operand, and of whether the row is BIT. -/
theorem extendedCycles_opByte {x y : Nat} (hx : x < 4) (hy : y < 8) (o : Operand8) :
    extendedCycles (opByte x y (operandCode o)) = if o = .atHl then (if x = 1 then 12 else 16) else 8 := by
  have hz : fieldZ (opByte x y (operandCode o)) = 6 ↔ o = .atHl := by
    rw [← operandCode_eq_six_iff, ← Fin.val_inj, fieldZ_opByte hx hy (operandCode_lt o)]
    rfl
  have hbit : fieldX (opByte x y (operandCode o)) = 1 ↔ x = 1 := by
    rw [← Fin.val_inj, fieldX_opByte hx hy (operandCode_lt o)]
    rfl
  simp only [extendedCycles, hz, hbit]

/-! ## The rows of the 0xCB page (R118) -/

/-- A row of the page, from its two bytes and its meaning. -/
theorem runsAs_of_extended {i : Instr} {x y : Nat} {o : Operand8} {s : State} {p : State → Prop} (hx : x < 4) (hy : y < 8)
    (hcode : encode i = [0xCB, opByte x y (operandCode o)]) (hexec : completes (exec i s) p) :
    runsAs i [0xCB, opByte x y (operandCode o)] (if o = .atHl then (if x = 1 then 12 else 16) else 8) s p :=
  ⟨hcode, (cycles_extended hcode).trans (extendedCycles_opByte hx hy o), hexec⟩

theorem runsAs_rotForm {op : RotOp} {o : Operand8} {s : State} {p : State → Prop} (h : completes (rotateOperand op o s) p) :
    runsAs (rotForm op o) [0xCB, opByte 0 (rotOpCode op) (operandCode o)] (if o = .atHl then 16 else 8) s p :=
  runsAs_of_extended (by decide) (rotOpCode_lt op) (encode_rotForm op o) (exec_rotForm op o s ▸ h)

theorem runsAs_bitForm {b : Fin 8} {o : Operand8} {s : State} {p : State → Prop} (h : completes (testBit b o s) p) :
    runsAs (bitForm b o) [0xCB, opByte 1 b.val (operandCode o)] (if o = .atHl then 12 else 8) s p :=
  runsAs_of_extended (by decide) b.isLt (encode_bitForm b o) (exec_bitForm b o s ▸ h)

theorem runsAs_resForm {b : Fin 8} {o : Operand8} {s : State} {p : State → Prop} (h : completes (resetBit b o s) p) :
    runsAs (resForm b o) [0xCB, opByte 2 b.val (operandCode o)] (if o = .atHl then 16 else 8) s p :=
  runsAs_of_extended (by decide) b.isLt (encode_resForm b o) (exec_resForm b o s ▸ h)

theorem runsAs_setForm {b : Fin 8} {o : Operand8} {s : State} {p : State → Prop} (h : completes (setBit b o s) p) :
    runsAs (setForm b o) [0xCB, opByte 3 b.val (operandCode o)] (if o = .atHl then 16 else 8) s p :=
  runsAs_of_extended (by decide) b.isLt (encode_setForm b o) (exec_setForm b o s ▸ h)

/-! ## AND, XOR and OR (R300 to R309) -/

/-- A result of `Logic8`, put into A with its flags. -/
theorem aluA_logicWritten {op : AluOp} {v res : Byte} {isAnd : Bool} {s : State} (k : Nat) (hop : op ≠ .cp)
    (hlogic : alu op s.a v (flagC s.f) = logic8 res isAnd) : completes (aluA op v k s) (logicWritten res isAnd k s) := by
  have hzero : (res == 0) = decide (res.toNat = 0) := by
    rw [beq_eq_decide, decide_eq_decide, ← BitVec.toNat_inj]
    rfl
  have hres : res = BitVec.ofNat 8 res.toNat := by simp
  have hspec := aluA_spec op v k s
  rw [hlogic] at hspec
  refine completes_mono hspec fun t ⟨ha, hflags, hrest⟩ => ⟨(ha.trans (if_neg hop)).trans hres, ?_, hrest⟩
  rwa [logic8, hzero] at hflags

theorem aluA_and_spec (v : Byte) (k : Nat) (s : State) : completes (aluA .and v k s) (logicWritten (s.a &&& v) true k s) :=
  aluA_logicWritten k (by decide) rfl

theorem aluA_xor_spec (v : Byte) (k : Nat) (s : State) : completes (aluA .xor v k s) (logicWritten (s.a ^^^ v) false k s) :=
  aluA_logicWritten k (by decide) rfl

theorem aluA_or_spec (v : Byte) (k : Nat) (s : State) : completes (aluA .or v k s) (logicWritten (s.a ||| v) false k s) :=
  aluA_logicWritten k (by decide) rfl

/-! ## Rotates and shifts as numbers (R310 to R330) -/

/-- Z of the one-byte rotates, by ROTATE_A_Z (D9). -/
theorem rotateAZero_eq {p : Params} {res : Byte} {n : Nat} (hzero : (res == 0) = decide (n = 0)) :
    rotateAZero p res = decide (p.rotateAZ = .fromResult ∧ n = 0) := by
  rw [rotateAZero, hzero]
  cases p.rotateAZ <;> simp

/-- A rotate of A, its carry in given as the claims give it. -/
theorem rotateA_accumulated (op : RotOp) (s : State) :
    let result := shiftedNumber op s.a.toNat (flagC s.f).toNat
    completes (rotateA op s)
      (accumulated result (decide (s.params.rotateAZ = .fromResult ∧ result = 0)) false false (shiftedOut op s.a.toNat) 1 s) := by
  obtain ⟨hres, hzero, hout⟩ := shift8_numbers op s.a (flagC s.f)
  refine completes_mono (rotateA_spec op s) fun t ⟨ha, hflags, hrest⟩ => ⟨ha.trans hres, ?_, hrest⟩
  rwa [rotateAZero_eq hzero, hout] at hflags

/-- A rotate, a shift or SWAP of an operand. -/
theorem rotateOperand_numbers (op : RotOp) (o : Operand8) (s : State) :
    let result := shiftedNumber op (s.operand o).toNat (flagC s.f).toNat
    completes (rotateOperand op o s) fun t => operandWritten o (BitVec.ofNat 8 result) s t ∧
      flagsAre s t (decide (result = 0)) false false (shiftedOut op (s.operand o).toNat) ∧ sameControl s t ∧ pcAdvanced 2 s t := by
  obtain ⟨hres, hzero, hout⟩ := shift8_numbers op (s.operand o) (flagC s.f)
  refine completes_mono (rotateOperand_spec op o s) fun t ⟨hwritten, hflags, hrest⟩ => ⟨?_, ?_, hrest⟩
  · rwa [hres] at hwritten
  · rwa [hzero, hout] at hflags

/-! ## The statements -/

namespace LogicBit

/-- Settles O41: the three operations are `Logic8` of their bitwise results. -/
theorem logic : Obligations.Logic := fun _ n s =>
  ⟨runsAs_aluForm (aluA_and_spec _ 1 s), runsAs_aluImmForm (aluA_and_spec n 2 s), runsAs_aluForm (aluA_xor_spec _ 1 s),
    runsAs_aluImmForm (aluA_xor_spec n 2 s), runsAs_aluForm (aluA_or_spec _ 1 s), runsAs_aluImmForm (aluA_or_spec n 2 s)⟩

/-- Settles O42: four operations of one meaning, under either value of ROTATE_A_Z. -/
theorem rotateA : Obligations.RotateA := fun s =>
  ⟨runsAs_of_always rfl rfl (rotateA_accumulated .rlc s), runsAs_of_always rfl rfl (rotateA_accumulated .rrc s),
    runsAs_of_always rfl rfl (rotateA_accumulated .rl s), runsAs_of_always rfl rfl (rotateA_accumulated .rr s)⟩

/-- Settles O43, by the numbers of `Shift8`, which hold for every operation of the field. -/
theorem rotates : Obligations.Rotates := fun op o s _ => runsAs_rotForm (rotateOperand_numbers op o s)

/-- Settles O44: the shifts and SWAP are the other four operations of the same field. -/
theorem shiftsAndSwap : Obligations.ShiftsAndSwap := fun op o s _ => runsAs_rotForm (rotateOperand_numbers op o s)

/-- Settles O45: a bit of a byte is a digit of its number. -/
theorem testBit : Obligations.TestBit := by
  intro b o s
  obtain ⟨hclear, -, -⟩ := bit_numbers b (s.operand o)
  have hspec := testBit_spec b o s
  rw [hclear] at hspec
  exact runsAs_bitForm hspec

/-- Settles O46: clearing a bit takes its digit's value away, and setting it adds what the digit lacks. -/
theorem resetAndSetBit : Obligations.ResetAndSetBit := by
  intro b o s
  obtain ⟨-, hreset, hset⟩ := bit_numbers b (s.operand o)
  have hresetSpec := resetBit_spec b o s
  have hsetSpec := setBit_spec b o s
  rw [hreset] at hresetSpec
  rw [hset] at hsetSpec
  exact ⟨runsAs_resForm hresetSpec, runsAs_setForm hsetSpec⟩

end LogicBit

end Sys2Proof.Machine
end

section
/-! The stack (45_stack.md): PUSH and POP as bytes, cycle counts and shared meanings, what a pop reads after a push, and from that the
statements of R360 to R365. -/

namespace Sys2Proof.Machine

/-! ## Forms as bytes, counts and meanings -/

theorem encode_pushForm (rr : StackPair) : encode (pushForm rr) = [opByte 3 (2 * stackPairCode rr) 5] := by cases rr <;> rfl

theorem primaryCycles_pushForm (rr : StackPair) : primaryCycles (opByte 3 (2 * stackPairCode rr) 5) = .always 16 := by cases rr <;> rfl

theorem exec_pushForm (rr : StackPair) (s : State) : exec (pushForm rr) s = pushPair rr s := by cases rr <;> rfl

theorem exec_popForm {rr : StackPair} (s : State) (h : rr ≠ .af) : exec (popForm rr) s = popPair rr s := by
  cases rr with
  | bc | de | hl => rfl
  | af => exact absurd rfl h

/-! ## Stack pairs (R31, R105) -/

/-- The registers of the register field that a stack pair contains. F is not one of them. -/
def stackPairRegs : StackPair → List Reg8
  | .bc => [.b, .c]
  | .de => [.d, .e]
  | .hl => [.h, .l]
  | .af => [.a]

theorem sameRegsBut_setStackPair (s : State) (rr : StackPair) (v : Word) : sameRegsBut (stackPairRegs rr) s (s.setStackPair rr v) := by
  intro q
  cases rr <;> cases q <;> simp [stackPairRegs, State.setStackPair, State.reg8]

@[simp] theorem setStackPair_stackPair_self (s : State) (rr : StackPair) : s.setStackPair rr (s.stackPair rr) = s := by
  cases rr <;> simp [State.setStackPair, State.stackPair]

/-- A stack pair is made of registers and F. -/
theorem stackPair_eq {s t : State} (rr : StackPair) (hregs : sameRegsBut [] s t) (hf : t.f = s.f) : t.stackPair rr = s.stackPair rr := by
  cases rr with
  | bc => exact congrArg₂ joinBytes (hregs .b nofun) (hregs .c nofun)
  | de => exact congrArg₂ joinBytes (hregs .d nofun) (hregs .e nofun)
  | hl => exact congrArg₂ joinBytes (hregs .h nofun) (hregs .l nofun)
  | af => exact congrArg₂ joinBytes (hregs .a nofun) hf

/-! ## F as popped (R364, D7) -/

theorem poppedF_toNat (p : Params) (v : Byte) :
    (poppedF p v).toNat = if p.fLowNibbleMask then v.toNat / 16 * 16 else v.toNat := by
  have hmask : ∀ v : Byte, (v &&& 0xF0).toNat = v.toNat / 16 * 16 := by decide
  rw [poppedF, apply_ite BitVec.toNat, hmask]

/-- The mask clears no flag. -/
theorem flagBit_poppedF (fl : Flag) (p : Params) (v : Byte) : flagBit fl (poppedF p v) = flagBit fl v := by
  have hmask : flagBit fl (v &&& 0xF0) = flagBit fl v := by cases fl <;> revert v <;> decide
  rw [poppedF, apply_ite (flagBit fl), hmask, ite_self]

/-- F[3:0] is cleared by the mask, and kept without it. -/
theorem lowNibble_poppedF_eq (p : Params) (v : Byte) :
    lowNibble (poppedF p v) = if p.fLowNibbleMask = true then 0 else lowNibble v := by
  by_cases hp : p.fLowNibbleMask = true
  · rw [lowNibble_poppedF hp, if_pos hp]
  · rw [poppedF, if_neg hp, if_neg hp]

/-! ## POP -/

theorem loByte_stackTop (s : State) : loByte (stackTop s) = s.read s.sp := loByte_joinBytes _ _

theorem hiByte_stackTop (s : State) : hiByte (stackTop s) = s.read (s.sp + 1) := hiByte_joinBytes _ _

/-- POP of BC, DE or HL, byte by byte (R363). -/
theorem popPair_bytes {rr : StackPair} (s : State) (hrr : rr ≠ .af) :
    completes (popPair rr s) fun t => loByte (t.stackPair rr) = s.read s.sp ∧ hiByte (t.stackPair rr) = s.read (s.sp + 1) ∧
      poppedWord s t ∧ sameRegsBut (stackPairRegs rr) s t ∧ t.f = s.f ∧ sameInterrupts s t ∧ pcAdvanced 1 s t := by
  refine completes_mono (popPair_spec rr s) fun t ⟨htop, hpopped, hinterrupts, hpc, ht⟩ => ⟨?_, ?_, hpopped, ?_, ?_, hinterrupts, hpc⟩
  · rw [htop, loByte_stackTop]
  · rw [htop, hiByte_stackTop]
  · intro q hq
    rw [ht, advance_reg8, sameRegsBut_setStackPair _ _ _ q hq, drop16_reg8]
  · rw [ht, advance_f, setStackPair_f _ _ _ hrr, drop16_f]

/-! ## POP after PUSH (R365) -/

theorem sp_of_pushedWord {v : Word} {s t : State} (h : pushedWord v s t) : t.sp = s.sp - 2 := by
  obtain ⟨hsp, -⟩ := h
  bv_omega

theorem sp_of_pushedWord_poppedWord {v : Word} {s t u : State} (hpushed : pushedWord v s t) (hpopped : poppedWord t u) : u.sp = s.sp := by
  obtain ⟨hdown, -⟩ := hpushed
  obtain ⟨hup, -⟩ := hpopped
  bv_omega

/-- The word on top of the stack after a push is the one pushed. -/
theorem stackTop_of_pushedWord {v : Word} {s t : State} (h : pushedWord v s t) : stackTop t = v := by
  have hsp := sp_of_pushedWord h
  have habove : s.sp - 2 + 1 = s.sp - 1 := by bv_omega
  obtain ⟨-, hlo, hhi, -⟩ := h
  rw [stackTop, hsp, habove, hlo, hhi, joinBytes_bytes]

/-- POP gives back the pair that PUSH has left on the stack, F masked where the pair is AF. -/
theorem popForm_of_pushedWord {rr : StackPair} {s t : State} (hpushed : pushedWord (s.stackPair rr) s t) (hregs : sameRegsBut [] s t)
    (hf : t.f = s.f) (hparams : t.params = s.params) :
    completes (exec (popForm rr) t) fun u =>
      sameRegsBut [] s u ∧ u.f = (if rr = .af then poppedF s.params s.f else s.f) ∧ poppedWord t u := by
  have htop := stackTop_of_pushedWord hpushed
  by_cases hrr : rr = .af
  · subst hrr
    have hhi : t.read (t.sp + 1) = s.a := by rw [← hiByte_stackTop, htop, State.stackPair, hiByte_joinBytes]
    have hlo : t.read t.sp = s.f := by rw [← loByte_stackTop, htop, State.stackPair, loByte_joinBytes]
    refine completes_mono (popAccumulatorFlags_spec t) fun u ⟨ha, hpoppedF, hpopped, hregs', _⟩ => ⟨fun q hq => ?_, ?_, hpopped⟩
    · by_cases hqa : q = .a
      · subst hqa
        exact ha.trans hhi
      · rw [hregs' q (by simpa using hqa), hregs q hq]
    · rw [hpoppedF, hlo, hparams, if_pos rfl]
  · rw [exec_popForm t hrr, if_neg hrr]
    refine completes_mono (popPair_spec rr t) fun u ⟨_, hpopped, _, _, hu⟩ => ?_
    have hpair : t.drop16.stackPair rr = s.stackPair rr := stackPair_eq rr (fun q hq => (drop16_reg8 t q).trans (hregs q hq)) hf
    rw [htop, ← hpair, setStackPair_stackPair_self] at hu
    subst hu
    exact ⟨fun q hq => by simpa using hregs q hq, hf, hpopped⟩

/-! ## The statements -/

namespace Stack

/-- Settles O47, by the one meaning of the four rows. -/
theorem pushPair : Obligations.PushPair := by
  intro rr s
  refine runsAs_of_always (encode_pushForm rr) (primaryCycles_pushForm rr) ?_
  rw [exec_pushForm]
  exact pushPair_spec rr s

/-- Settles O48: the pair read back byte by byte. -/
theorem popPair : Obligations.PopPair := by
  intro s rest
  have popsInto {rr : StackPair} (hrr : rr ≠ .af) (hi lo : State → Byte) (hpair : ∀ t, t.stackPair rr = joinBytes (hi t) (lo t)) :
      completes (Machine.popPair rr s) fun t => lo t = s.read s.sp ∧ hi t = s.read (s.sp + 1) ∧ rest (stackPairRegs rr) t :=
    completes_mono (popPair_bytes s hrr) fun t ⟨hlo, hhi, hrest⟩ => by
      rw [hpair, loByte_joinBytes] at hlo
      rw [hpair, hiByte_joinBytes] at hhi
      exact ⟨hlo, hhi, hrest⟩
  exact ⟨runsAs_of_always rfl rfl (popsInto (rr := .bc) nofun State.b State.c fun _ => rfl),
    runsAs_of_always rfl rfl (popsInto (rr := .de) nofun State.d State.e fun _ => rfl),
    runsAs_of_always rfl rfl (popsInto (rr := .hl) nofun State.h State.l fun _ => rfl)⟩

/-- Settles O49: the mask rounds the popped byte down to a multiple of 16. -/
theorem popAf : Obligations.PopAf := fun s =>
  runsAs_of_always rfl rfl (completes_mono (popAccumulatorFlags_spec s) fun _ ⟨ha, hf, hrest⟩ => ⟨ha, hf ▸ poppedF_toNat _ _, hrest⟩)

/-- Settles O50: POP reads the word PUSH has stored, and stores nothing. -/
theorem pushPopRoundTrip : Obligations.PushPopRoundTrip := by
  intro rr s
  rw [exec_pushForm]
  refine completes_mono (pushPair_spec rr s) fun t ⟨hpushed, hregs, hf, ⟨_, _, hparams⟩, _⟩ => ?_
  refine completes_mono (popForm_of_pushedWord hpushed hregs hf hparams) fun u ⟨hregs', hf', hpopped⟩ => ?_
  have hsp := sp_of_pushedWord_poppedWord hpushed hpopped
  obtain ⟨-, hlo, hhi, -⟩ := hpushed
  obtain ⟨-, hmem⟩ := hpopped
  refine ⟨hsp, hregs', (hmem _ nofun).trans hlo, (hmem _ nofun).trans hhi, fun fl => ?_, ?_⟩
  · rw [hf', apply_ite (flagBit fl), flagBit_poppedF, ite_self]
  · rw [hf']
    by_cases hrr : rr = .af
    · simp [hrr, lowNibble_poppedF_eq]
    · simp [hrr]

end Stack

end Sys2Proof.Machine
end

section
/-! The run (70_reset_and_hazards.md): what one call of `execute` adds to a run, and from that the statement of R416. -/

namespace Sys2Proof.Machine

/-! ## One call of a run -/

/-- No call of `execute` is refused: reading fails with a fault, and no rule refuses (R380). -/
theorem execute_ne_refused (src : FetchSource) (s : State) (r : Refusal) : execute src s ≠ .refused r := by
  intro h
  cases hdecode : decodeFrom (fetchByte src s) with
  | error => cases (execute_of_decodeFrom_error hdecode).symm.trans h
  | ok i =>
    obtain ⟨houtcome, -⟩ := execute_decoded hdecode
    rw [h] at houtcome
    obtain ⟨t, hexec⟩ | ⟨op, -, hexec⟩ := exec_ends i (beforeRule i s) <;> cases houtcome.trans hexec

theorem runFrom_cons_of_ok {src : FetchSource} {s t : State} {n : Nat} (h : execute src s = .ok t n) (rest : List FetchSource)
    (counted : Nat) : runFrom (src :: rest) s counted = runFrom rest t (counted + n) := by
  rw [runFrom, h]

theorem runFrom_cons_of_fault {src : FetchSource} {s : State} {f : Fault} (h : execute src s = .fault f) (rest : List FetchSource)
    (counted : Nat) : runFrom (src :: rest) s counted = { state := s, cycles := counted, stop := .byFault f } := by
  rw [runFrom, h]

/-! ## How a run ends -/

theorem runFrom_stop_ne_byRefusal (sources : List FetchSource) (s : State) (counted : Nat) (r : Refusal) :
    (runFrom sources s counted).stop ≠ .byRefusal r := by
  induction sources generalizing s counted with
  | nil => exact nofun
  | cons src rest ih =>
    cases h : execute src s with
    | ok t n =>
      rw [runFrom_cons_of_ok h]
      exact ih t (counted + n)
    | fault f =>
      rw [runFrom_cons_of_fault h]
      exact nofun
    | refused r' => exact absurd h (execute_ne_refused src s r')

/-- A run that a fault ends is the run over the sources before the faulting one, but for why it ended (R147, R416). -/
theorem runFrom_take_of_byFault {sources : List FetchSource} {s : State} {counted : Nat} {r : Fault}
    (h : (runFrom sources s counted).stop = .byFault r) :
    ∃ (k : Nat) (src : FetchSource), sources[k]? = some src ∧ execute src (runFrom sources s counted).state = .fault r ∧
      runFrom (sources.take k) s counted = { runFrom sources s counted with stop := .byHost } := by
  induction sources generalizing s counted with
  | nil => cases h
  | cons src rest ih =>
    cases hexecute : execute src s with
    | ok t n =>
      rw [runFrom_cons_of_ok hexecute] at h ⊢
      obtain ⟨k, src', hk, hfault, htake⟩ := ih h
      refine ⟨k + 1, src', hk, hfault, ?_⟩
      rw [List.take_succ_cons, runFrom_cons_of_ok hexecute, htake]
    | fault f =>
      rw [runFrom_cons_of_fault hexecute] at h ⊢
      cases h
      exact ⟨0, src, rfl, hexecute, rfl⟩
    | refused r' => exact absurd hexecute (execute_ne_refused src s r')

/-- Settles O11: the shorter run has the state and the count of the whole one. -/
theorem runEndsBeforeFault : Obligations.RunEndsBeforeFault := by
  intro sources s
  refine ⟨runFrom_stop_ne_byRefusal sources s 0, fun r h => ?_⟩
  obtain ⟨k, src, hk, hfault, htake⟩ := runFrom_take_of_byFault h
  refine ⟨k, src, hk, ?_⟩
  rw [htake]
  exact ⟨rfl, hfault, rfl, rfl⟩

end Sys2Proof.Machine
end
